-- ==== Sys2Proof/Word.lean ====
section
/-! DEFINITION. The word types of the CG420: the byte of the host bus and of memory, and the 16-bit
value of a register pair or an internal address (spec/00_scope.md, section 4 "Conventions"). -/

namespace Sys2Proof

/-- A byte: a register of the host window, a byte of memory, a command's `D` or `E` (R17, R179). -/
abbrev Byte := BitVec 8

/-- A 16-bit value: a command's `A`, `B` or `C`, the data-port pointer, FRAME_COUNT (R17, R124, R167). -/
abbrev Word := BitVec 16

end Sys2Proof
end

