-- ==== Sys2Proof/Syntax.lean ====
section
/-! DEFINITION. The commands of the CG420: one constructor for each row of spec/opcode_table.json,
in the table's order. A host access carries the byte written, and the register where the row covers
several. A step of the part itself (a take, a grant that ends, a boundary, an expiry, an event of the
reset input or of the supply) carries what comes from outside with it, which is only the level of the
supply at a sample. -/

namespace Sys2Proof

/-- Which byte of a two-byte register an access addresses (R164). -/
inductive ByteSel where
  | lo | hi
deriving DecidableEq, Repr

/-- The two blink groups (R136). -/
inductive BlinkGroup where
  | a | b
deriving DecidableEq, Repr

/-- The commands: the rows of spec/opcode_table.json. -/
inductive Instr where
  /-- PUSH (R26): the host writes `kind` to CMD_KIND. -/
  | push (kind : Byte)
  /-- COPY (R65): the engine takes a COPY entry. -/
  | copy
  /-- STAMP (R73): the engine takes a STAMP entry. -/
  | stamp
  /-- PRESENT (R57): the engine takes a PRESENT entry. -/
  | present
  /-- ZONE (R58): the engine takes a ZONE entry. -/
  | zone
  /-- WAIT (R54): the engine takes a WAIT entry. -/
  | wait
  /-- MARK (R56): the engine takes a MARK entry. -/
  | mark
  /-- PAUSE (R60): the host writes 1 to ENGINE_REQUEST. -/
  | pause
  /-- RESUME (R61): the host writes 2 to ENGINE_REQUEST. -/
  | resume
  /-- ABORT (R62): the host writes 3 to ENGINE_REQUEST. -/
  | abort
  /-- CONTINUE (R63): the host writes 4 to ENGINE_REQUEST. -/
  | continueHalted
  /-- FLUSH (R33): the host writes 5 to ENGINE_REQUEST. -/
  | flush
  /-- ENGINE_RESET (R64): the host writes 6 to ENGINE_REQUEST. -/
  | engineReset
  /-- POP (R94): the host writes 7 to ENGINE_REQUEST. -/
  | pop
  /-- UNASSIGNED_ENGINE_REQUEST (R59): the host writes `code`, 0 or 8 to FFh, to ENGINE_REQUEST. -/
  | unassignedEngineRequest (code : Byte)
  /-- POWER_ON (R146): the host writes 1 to PANEL_REQUEST. -/
  | powerOn
  /-- SHOW (R147): the host writes 2 to PANEL_REQUEST. -/
  | showPicture
  /-- BLANK (R147): the host writes 3 to PANEL_REQUEST. -/
  | blankPicture
  /-- POWER_OFF (R148): the host writes 4 to PANEL_REQUEST. -/
  | powerOff
  /-- UNASSIGNED_PANEL_REQUEST (R145): the host writes `code`, 0 or 5 to FFh, to PANEL_REQUEST. -/
  | unassignedPanelRequest (code : Byte)
  /-- SPACE_THRESHOLD (R32): the host writes `value` to SPACE_THRESHOLD. -/
  | spaceThreshold (value : Byte)
  /-- SCAN_CONFIG (R128): the host writes `value` to SCAN_CONFIG. -/
  | scanConfig (value : Byte)
  /-- BLINK_WRITE (R138): the host writes `value` to BLINK_A or BLINK_B. -/
  | blinkWrite (group : BlinkGroup) (value : Byte)
  /-- SUPPLY_WRITE (R156): the host writes `value` to SUPPLY. -/
  | supplyWrite (value : Byte)
  /-- IRQ_STATUS_CLEAR (R173): the host writes `value` to a byte of IRQ_STATUS. -/
  | irqStatusClear (byte : ByteSel) (value : Byte)
  /-- IRQ_ENABLE (R174): the host writes `value` to a byte of IRQ_ENABLE. -/
  | irqEnable (byte : ByteSel) (value : Byte)
  /-- PORT_DATA_READ (R168): the host reads PORT_DATA. -/
  | portDataRead
  /-- PORT_DATA_WRITE (R169): the host writes `value` to PORT_DATA. -/
  | portDataWrite (value : Byte)
  /-- FRAME_COUNT_LO_READ (R124): the host reads FRAME_COUNT lo. -/
  | frameCountLoRead
  /-- REGISTER_WRITE (R163): the host writes `value` to any other register of the window. -/
  | registerWrite (offset : BitVec 6) (value : Byte)
  /-- ROW_LATCH (R10): a row-read grant ends. -/
  | rowLatch
  /-- DATA_PORT_GRANT (R11): a data-port grant ends. -/
  | dataPortGrant
  /-- COPY_SOURCE_READ (R68): the grant of a COPY source byte ends. -/
  | copySourceRead
  /-- COPY_DESTINATION_WRITE (R68): the grant of a COPY destination byte ends. -/
  | copyDestinationWrite
  /-- STAMP_SOURCE_READ (R79): the grant of a STAMP source byte ends. -/
  | stampSourceRead
  /-- STAMP_READ_MODIFY_WRITE (R78): the locked grant of a STAMP destination byte ends. -/
  | stampReadModifyWrite
  /-- ROW_CHANGE (R121): the common period of a row below N - 1 ends. -/
  | rowChange
  /-- FRAME_BOUNDARY (R121): a positive frame ends. -/
  | frameBoundary
  /-- PAIR_BOUNDARY (R122): a negative frame ends. -/
  | pairBoundary
  /-- CHARGE_EXPIRY (R149): the charge timer expires. -/
  | chargeExpiry
  /-- DISCHARGE_EXPIRY (R152): the discharge timer expires. -/
  | dischargeExpiry
  /-- SAMPLE (R157): the sample timer expires with the supply at `millivolts`. -/
  | sample (millivolts : Nat)
  /-- DEVICE_RESET (R176): nRESET falls. -/
  | deviceReset
  /-- RESET_RELEASE (R176): nRESET rises. -/
  | resetRelease
  /-- POWER_ON_RESET (R177): the supply falls below 2.0 V. -/
  | powerOnReset
  /-- SUPPLY_RISE (R177): the supply first rises to 2.1 V. -/
  | supplyRise
  /-- POWER_ON_RELEASE (R177): the power-on release interval of 1024 ticks expires. -/
  | powerOnRelease
deriving DecidableEq, Repr

end Sys2Proof
end

