-- ==== Sys2Proof/Decode.lean ====
section
/-! DEFINITION. The command that a word spells. No row of spec/opcode_table.json gives bits (every
row's "fields" is empty and none has "fixed"), so no word spells a command: the commands reach the
part as accesses of the host and as events, not as encoded words. -/

namespace Sys2Proof

/-- The command spelled by the word `w` of `nbits` bits: none, since the table gives no row any bits. -/
def decodeTableWord (_nbits _w : Nat) : Option Instr := none

end Sys2Proof
end

