-- ==== Sys2Proof/Config.lean ====
section
/-! DEFINITION. The free values: what the specification leaves open and the part nevertheless goes on
with. Each is a constant without a body, so that nothing can be proved of its value. -/

namespace Sys2Proof.Config

/-- The value a byte of memory holds from the `epoch`-th power-on until it is first written (R1, R14:
"every mapped byte takes an arbitrary value"). Assumption 1. -/
opaque powerOnByte : (epoch : Nat) → (address : Nat) → Byte

/-- Whether a write whose grant a device reset cuts has taken effect (R15: the byte "holds afterwards
either its value before that grant or the value that grant was writing"). Read afresh for each reset,
by the model's counter. Assumption 7. -/
opaque cutWriteLands : (count : Nat) → Bool

/-- Whether the sample is taken before the scan's or the panel's event when both come due at one
reference tick (R162: either order). Read afresh each time, by the model's counter. Assumption 6. -/
opaque sampleFirst : (count : Nat) → Bool

/-- Where, in millivolts above 2400, the low threshold of this part lies in its band of 2.45 V ± 0.05 V
(R178). Used modulo 101, so that the threshold is one of 2400 to 2500. Assumption 8. -/
opaque lowThresholdOffset : Nat

end Sys2Proof.Config
end

