-- ==== Sys2Proof/Machine/State.lean ====
section
/-! DEFINITION. The state of the CG420 as plain data, block by block in the order of the block diagram
(spec/00_scope.md, section 1.2), the state right after device reset, and the ways a step can stop. What
the specification computes from other state (QUEUE_COUNT, the level flags, nIRQ, scan running, the pin
drive) is computed in Flags.lean, Registers.lean and Outputs.lean and has no field of its own. -/

namespace Sys2Proof.Machine

/-! ## The command queue -/

/-- The six command kinds (Table 2-1). -/
inductive Kind where
  | copy | stamp | present | zone | wait | mark
deriving DecidableEq, Repr

/-- A command entry. R17 counts nine fields but names eight, and no rule of the part reads a ninth: the
entry holds the eight named, kind, tag, flags and the operands A to E (assumption 29). `flags` holds the
seven flag positions of CMD_FLAGS; the unused high position is always clear and is not held. -/
structure Entry where
  kind  : Kind
  tag   : Byte
  flags : BitVec 7
  a     : Word
  b     : Word
  c     : Word
  d     : Byte
  e     : Byte
deriving DecidableEq, Repr

/-- The staging registers CMD_TAG, CMD_FLAGS and CMD_A to CMD_E (R24). -/
structure Staging where
  tag   : Byte
  flags : BitVec 7
  a     : Word
  b     : Word
  c     : Word
  d     : Byte
  e     : Byte
deriving DecidableEq, Repr

/-! ## The drawing engine and the completion ring -/

/-- The eight engine states (Table 3-1). -/
inductive EngineState where
  | idle | running | held | waiting | stalled | faultPending | halted | paused
deriving DecidableEq, Repr

/-- The hold reason (R36). -/
inductive HoldReason where
  | none | page | present
deriving DecidableEq, Repr

/-- The status codes of Table 5-1. -/
inductive Status where
  | done | aborted | noScan | sourceRange | destRange | parameter | shownPage
deriving DecidableEq, Repr

/-- A completion record: five fields, the info being the flags CLIPPED and HELD (R87). -/
structure Record where
  tag      : Byte
  kind     : Kind
  status   : Status
  progress : Nat
  clipped  : Bool
  held     : Bool
deriving DecidableEq, Repr

/-- The phase of the row a STAMP is working on (R79). -/
inductive StampPhase where
  | reading | writing
deriving DecidableEq, Repr

/-- The current command: its entry as taken, the working values of R36, and the working state of a
running COPY (R68: the index `k` of the next byte, which is `progress`, and the byte held between its
two grants) or STAMP (R79: the row index `i`, which is `progress`, the phase, the index of the next byte
within the phase, and the row buffer). -/
structure Current where
  entry      : Entry
  progress   : Nat
  heldOnce   : Bool
  clipped    : Bool
  abortNoted : Bool
  copyByte   : Option Byte
  phase      : StampPhase
  byteIndex  : Nat
  rowBuffer  : List Byte
deriving DecidableEq, Repr

/-- The drawing engine (R36). `takeDue` is the MODEL's own: it marks the moment between the ending of a
command, or a RESUME or CONTINUE, and the take of the head entry that R51, R61 and R63 let follow at
once. The engine is then in none of its eight states; `state` stands at IDLE (assumption 3). -/
structure Engine where
  state          : EngineState
  current        : Option Current
  holdReason     : HoldReason
  pauseRequested : Bool
  waitingRecord  : Option Record
  takeDue        : Bool
deriving DecidableEq, Repr

/-! ## The memory arbiter -/

/-- A row-latch request: the row to read, and whether its bytes drive nothing because the scan has
stopped since it was raised (R10, R123). -/
structure RowRequest where
  row       : Nat
  discarded : Bool
deriving DecidableEq, Repr

/-- A data-port request: a byte read, or a byte write with its value (R11). -/
inductive PortAccess where
  | read (address : Nat)
  | write (address : Nat) (value : Byte)
deriving DecidableEq, Repr

/-- The four operators of a STAMP (Table 4-5). -/
inductive StampOperator where
  | replace | set | clear | toggle
deriving DecidableEq, Repr

/-- An engine request: the source read or destination write of a COPY byte, the source read of a STAMP
byte, or the locked read-modify-write of a STAMP byte with its mask and source bits (R12, R68, R77). A
COPY source read carries the byte's destination, since the write that follows it is made even when the
command has been dropped in between (R16). -/
inductive EngineAccess where
  | copyRead (source destination : Nat)
  | copyWrite (destination : Nat) (value : Byte)
  | stampRead (source : Nat)
  | stampModify (destination : Nat) (mask bits : Byte) (operator : StampOperator)
deriving DecidableEq, Repr

/-- An engine request, and whether its command has been dropped by an engine reset (R16). -/
structure EngineRequest where
  access  : EngineAccess
  dropped : Bool
deriving DecidableEq, Repr

/-- A grant in progress: its client and shape (Table 1-4). A row read holds the page that was shown when
the grant began (R10). -/
inductive Grant where
  | row (request : RowRequest) (page : Fin 4)
  | port (access : PortAccess)
  | engine (request : EngineRequest)
deriving DecidableEq, Repr

/-- The arbiter: the grant in progress, and at most one waiting request of each client (R7).
`engineOwed` is the MODEL's own: it marks that the engine request now waiting was waiting when the last
data-port grant began, so that it is granted before the next one (R9's third point, assumption 30). -/
structure Arbiter where
  grant         : Option Grant
  rowRequest    : Option RowRequest
  portRequest   : Option PortAccess
  engineRequest : Option EngineRequest
  engineOwed    : Bool
deriving DecidableEq, Repr

/-! ## Presentation, scanner and compositor -/

/-- The presentation unit: the shown page and the pending present (R102). -/
structure Presentation where
  shown   : Fin 4
  pending : Option (Fin 4)
deriving DecidableEq, Repr

/-- The polarity of a frame (R118). -/
inductive Polarity where
  | positive | negative
deriving DecidableEq, Repr

/-- One copy of the scan configuration: the active commons code, the scan divider code and REVERSE
(R118, R129). -/
structure ScanConfig where
  commonsCode : BitVec 2
  dividerCode : BitVec 2
  reverse     : Bool
deriving DecidableEq, Repr

/-- The scanner (R118). The scan-running condition is a function of the panel state. -/
structure Scanner where
  polarity   : Polarity
  row        : Nat
  tick       : Nat
  frameCount : Word
  staged     : ScanConfig
  active     : ScanConfig
deriving DecidableEq, Repr

/-- The effects of a zone (R132). -/
inductive ZoneEffect where
  | invert | blank | blinkOff | blinkInvert
deriving DecidableEq, Repr

/-- An entry of the zone table (R132). -/
structure ZoneEntry where
  enable      : Bool
  effect      : ZoneEffect
  group       : BlinkGroup
  firstColumn : BitVec 6
  lastColumn  : BitVec 6
  firstRow    : BitVec 5
  lastRow     : BitVec 5
deriving DecidableEq, Repr

/-- A blink setting: the on-count and the off-count, each held less one as BLINK_A and BLINK_B hold them
(R136, R138). -/
structure BlinkSetting where
  onLessOne  : BitVec 4
  offLessOne : BitVec 4
deriving DecidableEq, Repr

/-- The phase of a blink group (R136). -/
inductive BlinkPhase where
  | on | off
deriving DecidableEq, Repr

/-- A blink group (R136). -/
structure Blink where
  staged   : BlinkSetting
  active   : BlinkSetting
  phase    : BlinkPhase
  position : Nat
  restart  : Bool
deriving DecidableEq, Repr

/-- The compositor: both copies of the zone table, the blink groups, and the dot values fixed at the
latch of the row in progress (bit `c` for column `c`), absent until that latch has been made (R126,
R132, R136). -/
structure Compositor where
  stagedZones : Vector ZoneEntry 8
  activeZones : Vector ZoneEntry 8
  blinkA      : Blink
  blinkB      : Blink
  rowDots     : Option (BitVec 64)
deriving DecidableEq, Repr

/-! ## Panel sequencer and supply monitor -/

/-- The six panel states (Table 8-1). -/
inductive PanelState where
  | off | charging | blanked | showing | stopping | discharging
deriving DecidableEq, Repr

/-- The pending panel request (R142). -/
inductive PanelPending where
  | none | show | blank
deriving DecidableEq, Repr

/-- The panel sequencer (R142). A timer holds the reference ticks it has still to count, and is absent
while it does not run. -/
structure Panel where
  state           : PanelState
  pending         : PanelPending
  showAfterCharge : Bool
  chargeTimer     : Option Nat
  dischargeTimer  : Option Nat
  chargeTime      : BitVec 2
  contrastTarget  : BitVec 5
  contrastActual  : BitVec 5
deriving DecidableEq, Repr

/-- The supply state (R156). -/
inductive SupplyState where
  | ok | low
deriving DecidableEq, Repr

/-- The level of a sample (R157). -/
inductive SampleLevel where
  | good | low
deriving DecidableEq, Repr

/-- The supply monitor (R156), and the level of the supply input in millivolts, which is the MODEL's
own field: the level the last SAMPLE command brought, for the samples the sample timer takes by itself
(assumption 9). -/
structure Supply where
  enabled    : Bool
  state      : SupplyState
  history    : Option SampleLevel
  timer      : Nat
  millivolts : Nat
deriving DecidableEq, Repr

/-! ## Host port -/

/-- The step of the data port (R167). -/
inductive PortStep where
  | one | eight
deriving DecidableEq, Repr

/-- The host port's own state: the data port's pointer and step (R167), the holding copy of the
FRAME_COUNT high byte (R124), ZONE_SELECT (R134), and the value the port returned for the last read
command, which is the MODEL's own field (assumption 18). -/
structure Port where
  pointer      : Word
  step         : PortStep
  frameHold    : Byte
  zoneIndex    : Fin 8
  zoneActive   : Bool
  readValue    : Option Byte
deriving DecidableEq, Repr

/-- The seven latched flags of IRQ_STATUS (Table 9-3) and the eleven enables of IRQ_ENABLE (R174). -/
structure Irq where
  pair     : Bool
  panel    : Bool
  supply   : Bool
  access   : Bool
  overrun  : Bool
  reject   : Bool
  refused  : Bool
  enableLo : Byte
  enableHi : BitVec 3
deriving DecidableEq, Repr

/-- Where the part stands in its power-on reset (R177): released; held while the supply has not risen to
2.1 V; or held for the release interval, with the ticks still to count. -/
inductive PowerOnReset where
  | released
  | supplyLow
  | releasing (ticks : Nat)
deriving DecidableEq, Repr

/-- The reset inputs: whether nRESET is low (R176), and the power-on reset (R177). -/
structure ResetInputs where
  nResetLow : Bool
  powerOn   : PowerOnReset
deriving DecidableEq, Repr

/-! ## The state -/

/-- The state of the CG420.

`memory` lists the bytes written since the last power-on, and an address that is not listed holds a
free value of that power-on (R1, R14). `epoch` counts power-ons and `freeCount` counts the free choices
made; both are the MODEL's own, and serve only to read the free values of Config. `pending` is the
queue of commands that wait to be taken, first in, first out. -/
structure State where
  memory         : List Host.Cell
  arbiter        : Arbiter
  queue          : List Entry
  staging        : Staging
  spaceThreshold : Byte
  engine         : Engine
  ring           : List Record
  pages          : Presentation
  scanner        : Scanner
  compositor     : Compositor
  panel          : Panel
  supply         : Supply
  port           : Port
  irq            : Irq
  resetInputs    : ResetInputs
  epoch          : Nat
  freeCount      : Nat
  pending        : List Instr
deriving DecidableEq, Repr

/-! ## Updates: one for each block, so that a later proof never unfolds a record update -/

/-- `s` with another memory. -/
def State.withMemory (s : State) (x : List Host.Cell) : State := { s with memory := x }
/-- `s` with another arbiter. -/
def State.withArbiter (s : State) (x : Arbiter) : State := { s with arbiter := x }
/-- `s` with another command queue. -/
def State.withQueue (s : State) (x : List Entry) : State := { s with queue := x }
/-- `s` with other staging registers. -/
def State.withStaging (s : State) (x : Staging) : State := { s with staging := x }
/-- `s` with another SPACE_THRESHOLD. -/
def State.withSpaceThreshold (s : State) (x : Byte) : State := { s with spaceThreshold := x }
/-- `s` with another engine. -/
def State.withEngine (s : State) (x : Engine) : State := { s with engine := x }
/-- `s` with another completion ring. -/
def State.withRing (s : State) (x : List Record) : State := { s with ring := x }
/-- `s` with another presentation unit. -/
def State.withPages (s : State) (x : Presentation) : State := { s with pages := x }
/-- `s` with another scanner. -/
def State.withScanner (s : State) (x : Scanner) : State := { s with scanner := x }
/-- `s` with another compositor. -/
def State.withCompositor (s : State) (x : Compositor) : State := { s with compositor := x }
/-- `s` with another panel sequencer. -/
def State.withPanel (s : State) (x : Panel) : State := { s with panel := x }
/-- `s` with another supply monitor. -/
def State.withSupply (s : State) (x : Supply) : State := { s with supply := x }
/-- `s` with another host port. -/
def State.withPort (s : State) (x : Port) : State := { s with port := x }
/-- `s` with other flags and enables. -/
def State.withIrq (s : State) (x : Irq) : State := { s with irq := x }
/-- `s` with other reset inputs. -/
def State.withResetInputs (s : State) (x : ResetInputs) : State := { s with resetInputs := x }
/-- `s` with another power-on count. -/
def State.withEpoch (s : State) (x : Nat) : State := { s with epoch := x }
/-- `s` with another count of free choices. -/
def State.withFreeCount (s : State) (x : Nat) : State := { s with freeCount := x }
/-- `s` with another queue of waiting commands. -/
def State.withPending (s : State) (x : List Instr) : State := { s with pending := x }

/-! ## The state right after device reset -/

/-- The staging registers after device reset and after engine reset: 00h (R24, R34, R35). -/
def Staging.reset : Staging := ⟨0#8, 0#7, 0#16, 0#16, 0#16, 0#8, 0#8⟩

/-- The engine after device reset and after engine reset: IDLE, nothing current, no hold, no pause
requested, no record waiting (R36, R64). -/
def Engine.reset : Engine := ⟨.idle, none, .none, false, none, false⟩

/-- The arbiter after device reset: no grant in progress, no request waiting and none owed (R7). -/
def Arbiter.reset : Arbiter := ⟨none, none, none, none, false⟩

/-- The presentation unit after device reset: page 0 shown, nothing pending (R102, R117). -/
def Presentation.reset : Presentation := ⟨0, none⟩

/-- The scan configuration after device reset: N = 16, D = 4, REVERSE clear, 0Ah (R118, R129). -/
def ScanConfig.reset : ScanConfig := ⟨2#2, 2#2, false⟩

/-- The scanner after device reset: FRAME_COUNT 0 and both configurations at their reset value (R118).
Polarity, row and tick count have no meaning while the scan is stopped (R118); the model keeps them at
positive, 0 and 0 (assumption 14). -/
def Scanner.reset : Scanner := ⟨.positive, 0, 0, 0#16, ScanConfig.reset, ScanConfig.reset⟩

/-- A zone entry after device reset: disabled, INVERT, group A, columns 0 to 0, rows 0 to 0 (R132). -/
def ZoneEntry.reset : ZoneEntry := ⟨false, .invert, .a, 0#6, 0#6, 0#5, 0#5⟩

/-- A blink group after device reset with `setting` in both copies: ON, position 0, no restart (R136). -/
def Blink.reset (setting : BlinkSetting) : Blink := ⟨setting, setting, .on, 0, false⟩

/-- The compositor after device reset (R132, R136): no zone enabled, group A at 4 and 4 (33h), group B
at 8 and 8 (77h), and no row latched. -/
def Compositor.reset : Compositor :=
  ⟨Vector.replicate 8 ZoneEntry.reset, Vector.replicate 8 ZoneEntry.reset,
    Blink.reset ⟨3#4, 3#4⟩, Blink.reset ⟨7#4, 7#4⟩, none⟩

/-- The panel sequencer after device reset: OFF, nothing pending, no timer running, CHARGE_TIME 2,
contrast target 16, actual contrast 0 (R142, R160). -/
def Panel.reset : Panel := ⟨.off, .none, false, none, none, 2#2, 16#5, 0#5⟩

/-- The supply monitor after device reset: enabled, OK, history empty, timer from 0 (R156, R160), with
the supply input at `millivolts`. -/
def Supply.reset (millivolts : Nat) : Supply := ⟨true, .ok, none, 0, millivolts⟩

/-- The host port after device reset: pointer 0000h, step +1, holding copy 00h (R176), ZONE_SELECT 00h
(R134). -/
def Port.reset : Port := ⟨0#16, .one, 0#8, 0, false, none⟩

/-- The flags and enables after device reset: every latched flag and every enable clear (R172, R174,
R176). -/
def Irq.reset : Irq := ⟨false, false, false, false, false, false, false, 0#8, 0#3⟩

/-- The machine right after device reset, with nRESET high again (R176): every block at its device-reset
value, SPACE_THRESHOLD 4 (R34), and the reset inputs released. Memory lists nothing, so every byte holds
its free value (R14). The supply input stands at 3300 mV, inside the operating range (assumption 9). -/
def State.reset : State where
  memory := []
  arbiter := Arbiter.reset
  queue := []
  staging := Staging.reset
  spaceThreshold := 4#8
  engine := Engine.reset
  ring := []
  pages := Presentation.reset
  scanner := Scanner.reset
  compositor := Compositor.reset
  panel := Panel.reset
  supply := Supply.reset 3300
  port := Port.reset
  irq := Irq.reset
  resetInputs := ⟨false, .released⟩
  epoch := 0
  freeCount := 0
  pending := []

/-! ## How a step can stop -/

/-- The faults: none. The part reports every mistake of the host by a flag or by a completion record and
goes on (R59, R41, R170), so no command stops the machine. -/
inductive Fault where
deriving DecidableEq, Repr

/-- The refusals. -/
inductive Refusal where
  /-- Raised by the dispatch for a command that has no meaning yet: none is left (safe: the machine
  stops where the part goes on). -/
  | notModelled (mnemonic : String)
deriving DecidableEq, Repr

/-- What a command answers. -/
abbrev Answer := Host.Outcome State Fault Refusal

end Sys2Proof.Machine
end

