-- ==== Sys2Proof/Machine/Bits.lean ====
section
/-! DEFINITION. Byte order and bit-field helpers: the bytes of a little-endian pair (R164), and a word
built from its bits. -/

namespace Sys2Proof.Machine

/-- The low byte of a pair (R164: at the lower offset). -/
def loByte (w : Word) : Byte := w.setWidth 8

/-- The high byte of a pair (R164: at the higher offset). -/
def hiByte (w : Word) : Byte := (w >>> 8).setWidth 8

/-- A pair with its low byte replaced and the high byte left (R164). -/
def withLo (w : Word) (v : Byte) : Word := hiByte w ++ v

/-- A pair with its high byte replaced and the low byte left (R164). -/
def withHi (w : Word) (v : Byte) : Word := v ++ loByte w

/-- The byte of a pair that `sel` names. -/
def byteOf (sel : ByteSel) (w : Word) : Byte :=
  match sel with
  | .lo => loByte w
  | .hi => hiByte w

/-- The word whose bit `i` is `f i`, for `i` below its width. -/
def ofBits (f : Nat → Bool) : (n : Nat) → BitVec n
  | 0 => 0#0
  | n + 1 => BitVec.cons (f n) (ofBits f n)

/-- The byte with `b` in bit `i` and 0 elsewhere. -/
def bitAt (i : Nat) (b : Bool) : Byte := if b then 1#8 <<< i else 0#8

end Sys2Proof.Machine
end

