-- ==== Sys2Proof/Machine/Geometry.lean ====
section
/-! DEFINITION. The internal address space: what is mapped, and where the dots of the pages stand
(spec/01_page_memory_and_work_memory.md, R1 to R6). -/

namespace Sys2Proof.Machine

/-- The first unmapped address: 0000h to 0E7Fh are mapped (R1, R6). -/
def mappedEnd : Nat := 0x0E80

/-- Whether an address holds storage (R1, R6). Address sums do not wrap, so an address is a `Nat`. -/
def mapped (address : Nat) : Bool := address < mappedEnd

/-- The base address of page memory (Table 1-1). -/
def pageMemoryBase : Nat := 0x0C00

/-- The base address of page `p`: 0C00h + 160 × p (R3). -/
def pageBase (p : Nat) : Nat := pageMemoryBase + 160 * p

/-- The page an address belongs to: (a − 0C00h) div 160 in page memory, and none elsewhere (R3). -/
def pageOf (address : Nat) : Option (Fin 4) :=
  if pageMemoryBase ≤ address ∧ address < mappedEnd then
    some (Fin.ofNat 4 ((address - pageMemoryBase) / 160))
  else none

/-- The address of the first byte of row `r` of page `p`: 0C00h + 160 × p + 8 × r (R4). -/
def rowAddress (p : Fin 4) (r : Nat) : Nat := pageBase p.val + 8 * r

/-- The address of the byte that holds dot (r, c) of page `p` (R4). -/
def dotAddress (p : Fin 4) (r c : Nat) : Nat := rowAddress p r + c / 8

/-- The bit of its byte that holds a dot of column `c`: 7 − c mod 8 (R4). -/
def dotBit (c : Nat) : Nat := 7 - c % 8

/-- The page bit of column `c` in the eight bytes of a row (Table 1-3). -/
def rowBit (bytes : List Byte) (c : Nat) : Bool := (bytes.getD (c / 8) 0#8).getLsbD (dotBit c)

end Sys2Proof.Machine
end

