-- ==== Sys2Proof/Machine/Memory.lean ====
section
/-! DEFINITION. Memory as a list of (address, byte) pairs in one canonical form: addresses strictly
rising and mapped. An address that is not listed has no byte of its own (`none`): it has not been
written since the last power-on, and holds that power-on's free value, which `byteAt` supplies (R1, R14).
So no entry equals what an unlisted address reads as, and equal memories are equal lists. -/

namespace Sys2Proof.Machine

/-- What memory lists at an address: `none` where nothing has been written since the last power-on. -/
def memoryRead : List Host.Cell → Nat → Option Byte
  | [], _ => none
  | (b, v) :: m, a => if a = b then some v else memoryRead m a

/-- A sorted list with the byte at `a` set to `v`. -/
def memoryInsert : List Host.Cell → Nat → Byte → List Host.Cell
  | [], a, v => [(a, v)]
  | (b, w) :: m, a, v =>
    if a < b then (a, v) :: (b, w) :: m
    else if a = b then (a, v) :: m
    else (b, w) :: memoryInsert m a v

/-- A write of one byte. An unmapped address holds no storage, and a write there changes nothing (R6). -/
def memoryWrite (m : List Host.Cell) (a : Nat) (v : Byte) : List Host.Cell :=
  if mapped a then memoryInsert m a v else m

/-- The canonical form: every address mapped, and each above the one before it. -/
def Memory.wf : List Host.Cell → Bool
  | [] => true
  | (a, _) :: m => mapped a && m.all (fun c => decide (a < c.1)) && Memory.wf m

/-- The byte at an address: the one last written since the last power-on, or that power-on's free value
(R1, R14). -/
def byteAt (s : State) (a : Nat) : Byte := (memoryRead s.memory a).getD (Config.powerOnByte s.epoch a)

/-- `s` with the byte at `a` set to `v` (R1). -/
def writeByte (a : Nat) (v : Byte) (s : State) : State := s.withMemory (memoryWrite s.memory a v)

/-- The eight bytes of row `r` of page `p` (R10). -/
def rowBytes (s : State) (p : Fin 4) (r : Nat) : List Byte :=
  (List.range 8).map (fun m => byteAt s (rowAddress p r + m))

end Sys2Proof.Machine
end

