-- ==== Sys2Proof/Machine/Operands.lean ====
section
/-! DEFINITION. The operand forms: the fields a kind takes from its entry (R19 to R23, Tables 10-6 and
10-7), the ranges, geometry and operators of COPY and STAMP (spec/04_copy_and_stamp_operations.md), and
the fields of the registers the host writes (Tables 10-3 and 10-4). -/

namespace Sys2Proof.Machine

/-! ## Kinds, codes and flags -/

/-- The kind of a code: 1 to 6, and none for 0 and 7 to FFh (Table 2-1, R26). -/
def kindOfCode (code : Byte) : Option Kind :=
  match code.toNat with
  | 1 => some .copy
  | 2 => some .stamp
  | 3 => some .present
  | 4 => some .zone
  | 5 => some .wait
  | 6 => some .mark
  | _ => none

/-- The code of a kind (Table 2-1). -/
def Kind.code : Kind → Byte
  | .copy => 1#8 | .stamp => 2#8 | .present => 3#8 | .zone => 4#8 | .wait => 5#8 | .mark => 6#8

/-- The code of a status (Table 5-1). -/
def Status.code : Status → Byte
  | .done => 0#8 | .aborted => 1#8 | .noScan => 2#8 | .sourceRange => 8#8 | .destRange => 9#8
  | .parameter => 10#8 | .shownPage => 11#8

/-- Whether a status is a fault: codes 8 to 11 (R88). -/
def Status.isFault : Status → Bool
  | .done | .aborted | .noScan => false
  | .sourceRange | .destRange | .parameter | .shownPage => true

/-- NOTIFY (Table 10-6). -/
def Entry.notify (e : Entry) : Bool := e.flags.getLsbD 0
/-- LIVE (Table 10-6). -/
def Entry.live (e : Entry) : Bool := e.flags.getLsbD 1
/-- SRC_FIXED (Table 10-6). -/
def Entry.srcFixed (e : Entry) : Bool := e.flags.getLsbD 2
/-- DST_FIXED (Table 10-6). -/
def Entry.dstFixed (e : Entry) : Bool := e.flags.getLsbD 3
/-- WAIT_SHOWN (Table 10-6). -/
def Entry.waitShown (e : Entry) : Bool := e.flags.getLsbD 6

/-- OPERATOR: 0 REPLACE, 1 SET, 2 CLEAR, 3 TOGGLE (R181). -/
def Entry.operator (e : Entry) : StampOperator :=
  match e.flags.getLsbD 5, e.flags.getLsbD 4 with
  | false, false => .replace
  | false, true => .set
  | true, false => .clear
  | true, true => .toggle

/-! ## COPY (R65 to R67) -/

/-- The count of a COPY (R65). -/
def Entry.count (e : Entry) : Nat := e.c.toNat

/-- The source address of byte `k`: A + k, or A with SRC_FIXED, without wrap (R66). -/
def Entry.copySource (e : Entry) (k : Nat) : Nat :=
  if e.srcFixed then e.a.toNat else e.a.toNat + k

/-- The destination address of byte `k`: B + k, or B with DST_FIXED, without wrap (R66). -/
def Entry.copyDestination (e : Entry) (k : Nat) : Nat :=
  if e.dstFixed then e.b.toNat else e.b.toNat + k

/-- The checks of a COPY, in order (R39, R65, R67): the fault of the first that fails. -/
def Entry.checkCopy (e : Entry) : Option Status :=
  if e.count = 0 ∨ 4096 < e.count then some .parameter
  else if !mapped (e.copySource (e.count - 1)) then some .sourceRange
  else if !mapped (e.copyDestination (e.count - 1)) then some .destRange
  else none

/-! ## STAMP (R73 to R78) -/

/-- The source stride (R73). -/
def Entry.stride (e : Entry) : Nat := (loByte e.b).toNat
/-- The destination page field (R73); a page above 3 fails the PARAMETER check. -/
def Entry.stampPage (e : Entry) : Nat := (hiByte e.b).toNat
/-- The width W (R73). -/
def Entry.width (e : Entry) : Nat := (loByte e.c).toNat
/-- The height H (R73). -/
def Entry.height (e : Entry) : Nat := (hiByte e.c).toNat
/-- The destination column D (R73). -/
def Entry.column (e : Entry) : Nat := e.d.toNat
/-- The destination row E (R73). -/
def Entry.row (e : Entry) : Nat := e.e.toNat

/-- The last address of a STAMP's source span, over the full width and height (R76). -/
def Entry.stampLastSource (e : Entry) : Nat :=
  e.a.toNat + (e.height - 1) * e.stride + (e.width + 7) / 8 - 1

/-- The checks of a STAMP, in order (R39, R73, R76); DEST_RANGE always passes. -/
def Entry.checkStamp (e : Entry) : Option Status :=
  if 3 < e.stampPage ∨ e.width = 0 ∨ 64 < e.width ∨ e.height = 0 ∨ 20 < e.height ∨ 63 < e.column
      ∨ 19 < e.row then some .parameter
  else if !mapped e.stampLastSource then some .sourceRange
  else none

/-- The unclipped width Wu = min(W, 64 − D) (R74). -/
def Entry.unclippedWidth (e : Entry) : Nat := min e.width (64 - e.column)
/-- The unclipped height Hu = min(H, 20 − E) (R74). -/
def Entry.unclippedHeight (e : Entry) : Nat := min e.height (20 - e.row)

/-- Whether a STAMP is clipped: Wu < W or Hu < H (R74). -/
def Entry.isClipped (e : Entry) : Bool :=
  e.unclippedWidth < e.width || e.unclippedHeight < e.height

/-- How many source bytes an unclipped row reads: offsets 0 to (Wu − 1) div 8 (R75). -/
def Entry.sourceBytes (e : Entry) : Nat := (e.unclippedWidth - 1) / 8 + 1

/-- The address of source byte `m` of row `i`: A + i × stride + m (R75). -/
def Entry.stampSource (e : Entry) (i m : Nat) : Nat := e.a.toNat + i * e.stride + m

/-- The offset in its page row of the first byte a STAMP touches: D div 8 (R77). -/
def Entry.firstOffset (e : Entry) : Nat := e.column / 8

/-- How many bytes of a page row a STAMP touches: offsets D div 8 to (D + Wu − 1) div 8 (R77). -/
def Entry.destinationBytes (e : Entry) : Nat :=
  (e.column + e.unclippedWidth - 1) / 8 - e.firstOffset + 1

/-- The destination page of a STAMP whose checks have passed (R73). -/
def Entry.stampPageNumber (e : Entry) : Fin 4 := Fin.ofNat 4 e.stampPage

/-- The address of touched byte `n` of row `i` (R77). -/
def Entry.stampDestination (e : Entry) (i n : Nat) : Nat :=
  rowAddress e.stampPageNumber (e.row + i) + (e.firstOffset + n)

/-- The column of bit `b` of the byte at offset `m` of a page row (R4). -/
def columnOfBit (m b : Nat) : Nat := 8 * m + (7 - b)

/-- The mask of touched byte `n`: its bits whose columns lie in D to D + Wu − 1 (R77). -/
def Entry.stampMask (e : Entry) (n : Nat) : Byte :=
  ofBits (fun b =>
    let c := columnOfBit (e.firstOffset + n) b
    decide (e.column ≤ c) && decide (c < e.column + e.unclippedWidth)) 8

/-- The source bits of touched byte `n`, from the row buffer: column c takes source bit j = c − D
(R75, R77). -/
def Entry.stampBits (e : Entry) (buffer : List Byte) (n : Nat) : Byte :=
  ofBits (fun b => rowBit buffer (columnOfBit (e.firstOffset + n) b - e.column)) 8

/-- The byte a STAMP writes back: masked bits by the operator, the others as they were (R78,
Table 4-5). -/
def StampOperator.combine (operator : StampOperator) (old mask bits : Byte) : Byte :=
  let new := match operator with
    | .replace => bits
    | .set => old ||| bits
    | .clear => old &&& ~~~bits
    | .toggle => old ^^^ bits
  (old &&& ~~~mask) ||| (new &&& mask)

/-! ## The pages a command's destination touches (R42) -/

/-- Whether page `p` is among the pages the destination touches: for a COPY the pages of the addresses it
will write, for a STAMP the page named in B hi (R42). -/
def Entry.touches (e : Entry) (p : Fin 4) : Bool :=
  match e.kind with
  | .copy =>
    decide (e.copyDestination 0 < pageBase p.val + 160) &&
      decide (pageBase p.val ≤ e.copyDestination (e.count - 1))
  | .stamp => e.stampPageNumber = p
  | .present | .zone | .wait | .mark => false

/-! ## PRESENT, ZONE and WAIT (R21 to R23) -/

/-- The check of a PRESENT: D is 0 to 3 (R21, R39). -/
def Entry.checkPresent (e : Entry) : Option Status :=
  if 3 < e.d.toNat then some .parameter else none

/-- The page a PRESENT names (R21). -/
def Entry.presentPage (e : Entry) : Fin 4 := Fin.ofNat 4 e.d.toNat

/-- The check of a ZONE (R22, R133). -/
def Entry.checkZone (e : Entry) : Option Status :=
  if 7 < e.d.toNat ∨ (hiByte e.a).toNat < (loByte e.a).toNat ∨ 63 < (hiByte e.a).toNat
      ∨ (hiByte e.b).toNat < (loByte e.b).toNat ∨ 19 < (hiByte e.b).toNat then some .parameter
  else none

/-- The effect of an effect byte, at bits 2 and 1 (Table 10-6). -/
def zoneEffectOf (v : Byte) : ZoneEffect :=
  match v.getLsbD 2, v.getLsbD 1 with
  | false, false => .invert
  | false, true => .blank
  | true, false => .blinkOff
  | true, true => .blinkInvert

/-- The zone entry a ZONE writes: its bounds from A and B, enable, effect and group from E (R133). -/
def Entry.zoneEntry (e : Entry) : ZoneEntry where
  enable := e.e.getLsbD 0
  effect := zoneEffectOf e.e
  group := if e.e.getLsbD 3 then .b else .a
  firstColumn := (loByte e.a).setWidth 6
  lastColumn := (hiByte e.a).setWidth 6
  firstRow := (loByte e.b).setWidth 5
  lastRow := (hiByte e.b).setWidth 5

/-- The index a ZONE names (R22). -/
def Entry.zoneIndex (e : Entry) : Fin 8 := Fin.ofNat 8 e.d.toNat

/-- The check of a WAIT: D is 1 to 255 (R23, R39). -/
def Entry.checkWait (e : Entry) : Option Status :=
  if e.d.toNat = 0 then some .parameter else none

/-- The checks of an entry, by its kind; a MARK passes (R39). -/
def Entry.check (e : Entry) : Option Status :=
  match e.kind with
  | .copy => e.checkCopy
  | .stamp => e.checkStamp
  | .present => e.checkPresent
  | .zone => e.checkZone
  | .wait => e.checkWait
  | .mark => none

/-! ## Fields of the registers the host writes -/

/-- SCAN_CONFIG (Table 10-3): the bits outside the fields are disregarded. -/
def scanConfigOf (v : Byte) : ScanConfig :=
  ⟨v.setWidth 2, (v >>> 2).setWidth 2, v.getLsbD 4⟩

/-- BLINK_A or BLINK_B (Table 10-3). -/
def blinkSettingOf (v : Byte) : BlinkSetting := ⟨v.setWidth 4, (v >>> 4).setWidth 4⟩

/-- The number of active commons N of a configuration: 8, 12, 16 or 20 (R119). -/
def ScanConfig.commons (c : ScanConfig) : Nat := 8 + 4 * c.commonsCode.toNat

/-- The scan divider D of a configuration: 1, 2, 4 or 8 (R119). -/
def ScanConfig.divider (c : ScanConfig) : Nat := 2 ^ c.dividerCode.toNat

/-- The length of a common period, 32 × D reference ticks (R119). -/
def ScanConfig.period (c : ScanConfig) : Nat := 32 * c.divider

/-- The on-count of a setting, 1 to 16 (R136). -/
def BlinkSetting.onCount (b : BlinkSetting) : Nat := b.onLessOne.toNat + 1

/-- The off-count of a setting, 1 to 16 (R136). -/
def BlinkSetting.offCount (b : BlinkSetting) : Nat := b.offLessOne.toNat + 1

/-- The charge time of a CHARGE_TIME code: 2048, 4096, 8192 or 16384 ticks (R149). -/
def chargeTicks (code : BitVec 2) : Nat := 2048 * 2 ^ code.toNat

/-- The step of the data port in PORT_STEP: bit 0, 0 for +1 and 1 for +8 (R167). -/
def portStepOf (v : Byte) : PortStep := if v.getLsbD 0 then .eight else .one

/-- The pointer after an access: it advances by the step, modulo 65536 (R171). -/
def PortStep.advance (step : PortStep) (pointer : Word) : Word :=
  match step with
  | .one => pointer + 1#16
  | .eight => pointer + 8#16

/-- The low threshold of this part in millivolts, 2400 to 2500 (R178). -/
def lowThreshold : Nat := 2400 + Config.lowThresholdOffset % 101

/-- The level of a sample: good at or above the low threshold, low below it (R157, R178). Outside the
threshold's band the level does not depend on where in the band it lies. -/
def sampleLevelOf (millivolts : Nat) : SampleLevel :=
  if 2500 ≤ millivolts then .good
  else if millivolts < 2400 then .low
  else if lowThreshold ≤ millivolts then .good else .low

end Sys2Proof.Machine
end

