-- ==== Sys2Proof/Machine/Flags.lean ====
section
/-! DEFINITION. The conditions and flags: scan running, reset, the eleven flags of IRQ_STATUS (Table 9-3)
and the latching of each, and nIRQ. -/

namespace Sys2Proof.Machine

/-- The scan runs in BLANKED, SHOWING and STOPPING, and is stopped in the other states (R118). -/
def PanelState.scans : PanelState → Bool
  | .blanked | .showing | .stopping => true
  | .off | .charging | .discharging => false

/-- The scan-running condition (R118). -/
def scanRunning (s : State) : Bool := s.panel.state.scans

/-- The number of active commons, N (R119). -/
def activeCommons (s : State) : Nat := s.scanner.active.commons

/-- The part is in device reset while nRESET is low (R176) or it holds itself in power-on reset (R177). -/
def inReset (s : State) : Bool := s.resetInputs.nResetLow || s.resetInputs.powerOn != .released

/-- The capacity of the command queue (R29). -/
def queueCapacity : Nat := 16

/-- The capacity of the completion ring (R91). -/
def ringCapacity : Nat := 8

/-! ## The level flags -/

/-- RING: the ring holds at least one record (R98). -/
def ringFlag (s : State) : Bool := !s.ring.isEmpty

/-- SPACE: the free count is at least SPACE_THRESHOLD (R31). -/
def spaceFlag (s : State) : Bool := s.spaceThreshold.toNat ≤ queueCapacity - s.queue.length

/-- HALT: the engine is HALTED or FAULT_PENDING (R37). -/
def haltFlag (s : State) : Bool :=
  s.engine.state == .halted || s.engine.state == .faultPending

/-- IDLE: the engine is IDLE (R37), which it is not between an ending and the take that follows it. -/
def idleFlag (s : State) : Bool := s.engine.state == .idle && !s.engine.takeDue

/-! ## The latched flags: each is set whatever its state before (R173) -/

/-- Latch PAIR (R122). -/
def latchPair (s : State) : State := s.withIrq { s.irq with pair := true }
/-- Latch PANEL (R143). -/
def latchPanel (s : State) : State := s.withIrq { s.irq with panel := true }
/-- Latch SUPPLY (R159). -/
def latchSupply (s : State) : State := s.withIrq { s.irq with supply := true }
/-- Latch ACCESS (R170). -/
def latchAccess (s : State) : State := s.withIrq { s.irq with access := true }
/-- Latch OVERRUN (R26). -/
def latchOverrun (s : State) : State := s.withIrq { s.irq with overrun := true }
/-- Latch REJECT (R26). -/
def latchReject (s : State) : State := s.withIrq { s.irq with reject := true }
/-- Latch REFUSED: a refused request or write changes nothing else (R59, R145, R32). -/
def refuse (s : State) : State := s.withIrq { s.irq with refused := true }

/-! ## IRQ_STATUS, IRQ_ENABLE and nIRQ -/

/-- IRQ_STATUS lo (Table 9-3). -/
def irqStatusLo (s : State) : Byte :=
  bitAt 0 (ringFlag s) ||| bitAt 1 (spaceFlag s) ||| bitAt 2 (haltFlag s) ||| bitAt 3 (idleFlag s) |||
  bitAt 4 s.irq.pair ||| bitAt 5 s.irq.panel ||| bitAt 6 s.irq.supply ||| bitAt 7 s.irq.access

/-- IRQ_STATUS hi (Table 9-3). -/
def irqStatusHi (s : State) : Byte :=
  bitAt 0 s.irq.overrun ||| bitAt 1 s.irq.reject ||| bitAt 2 s.irq.refused

/-- The write of a byte of IRQ_STATUS: a 1 clears a latched flag, a 0 leaves it, a level flag disregards
the write (R173). -/
def clearIrq (byte : ByteSel) (v : Byte) (s : State) : State :=
  match byte with
  | .lo => s.withIrq { s.irq with
      pair := s.irq.pair && !v.getLsbD 4
      panel := s.irq.panel && !v.getLsbD 5
      supply := s.irq.supply && !v.getLsbD 6
      access := s.irq.access && !v.getLsbD 7 }
  | .hi => s.withIrq { s.irq with
      overrun := s.irq.overrun && !v.getLsbD 0
      reject := s.irq.reject && !v.getLsbD 1
      refused := s.irq.refused && !v.getLsbD 2 }

/-- The write of a byte of IRQ_ENABLE; the bits of the hi byte above bit 2 are disregarded (R174). -/
def enableIrq (byte : ByteSel) (v : Byte) (s : State) : State :=
  match byte with
  | .lo => s.withIrq { s.irq with enableLo := v }
  | .hi => s.withIrq { s.irq with enableHi := v.setWidth 3 }

/-- nIRQ is asserted exactly while a flag is set whose enable is set (R175). -/
def nIrqAsserted (s : State) : Bool :=
  (irqStatusLo s &&& s.irq.enableLo) != 0#8 || (irqStatusHi s &&& s.irq.enableHi.setWidth 8) != 0#8

end Sys2Proof.Machine
end

