-- ==== Sys2Proof/Machine/Composition.lean ====
section
/-! DEFINITION. Composition: the dot values of a row from its latched bytes, REVERSE, the active zone
table and the blink phases (spec/07_scanning_and_composition.md, R132, R140, R141). -/

namespace Sys2Proof.Machine

/-- An enabled entry covers dot (r, c) when c and r lie between its bounds, inclusive (R132). -/
def ZoneEntry.covers (z : ZoneEntry) (r c : Nat) : Bool :=
  z.enable && decide (z.firstColumn.toNat ≤ c) && decide (c ≤ z.lastColumn.toNat) &&
    decide (z.firstRow.toNat ≤ r) && decide (r ≤ z.lastRow.toNat)

/-- The phase of a blink group (R136). -/
def Compositor.phaseOf (k : Compositor) (g : BlinkGroup) : BlinkPhase :=
  match g with
  | .a => k.blinkA.phase
  | .b => k.blinkB.phase

/-- The dot value an effect gives a dot of value `base` in a phase (R141). -/
def ZoneEffect.apply (effect : ZoneEffect) (phase : BlinkPhase) (base : Bool) : Bool :=
  match effect, phase with
  | .invert, _ => !base
  | .blank, _ => false
  | .blinkOff, .on => base
  | .blinkOff, .off => false
  | .blinkInvert, .on => base
  | .blinkInvert, .off => !base

/-- The enabled active entry of lowest index that covers (r, c) (R140). -/
def Compositor.coveringZone (k : Compositor) (r c : Nat) : Option ZoneEntry :=
  k.activeZones.toList.find? (fun z => z.covers r c)

/-- The value of dot (r, c) whose page bit is `bit` (R140): the base value, or what the covering entry
of lowest index makes of it. -/
def dotValue (s : State) (r c : Nat) (bit : Bool) : Bool :=
  let base := bit ^^ s.scanner.active.reverse
  match s.compositor.coveringZone r c with
  | none => base
  | some z => z.effect.apply (s.compositor.phaseOf z.group) base

/-- The dot values of row `r`, column `c` in bit `c`, from the eight latched bytes (R126, R140). -/
def composeRow (s : State) (r : Nat) (bytes : List Byte) : BitVec 64 :=
  ofBits (fun c => dotValue s r c (rowBit bytes c)) 64

end Sys2Proof.Machine
end

