-- ==== Sys2Proof/Machine/Ops.lean ====
section
/-! DEFINITION. The operations that the commands share: the memory arbiter (R7 to R9), the ending of a
command and its record (R41, R50, R51, R92, R95), beginning and holding (R43, R44, R74), the hand-over
and the switch (R57, R104, R105, R107, R108), and what a switch or a scan event does at the engine (R45,
R46, R54, R55, R110). Each acts on the state as its rule says and on nothing else. -/

namespace Sys2Proof.Machine

/-! ## The arbiter -/

/-- When no grant is in progress, the waiting request of highest priority is granted: the row latch,
then the data port, then the engine (R9). A row read takes the page shown as its grant begins (R10). An
engine request that waits while a data-port grant begins is owed the grant before the port's next. -/
def arbitrate (s : State) : State :=
  match s.arbiter.grant with
  | some _ => s
  | none =>
    match s.arbiter.rowRequest with
    | some r =>
      s.withArbiter { s.arbiter with grant := some (.row r s.pages.shown), rowRequest := none }
    | none =>
      match s.arbiter.portRequest with
      | some p =>
        s.withArbiter { s.arbiter with
          grant := some (.port p)
          portRequest := none
          engineOwed := s.arbiter.engineRequest.isSome }
      | none =>
        match s.arbiter.engineRequest with
        | some e =>
          s.withArbiter { s.arbiter with
            grant := some (.engine e), engineRequest := none, engineOwed := false }
        | none => s

/-- The grant in progress has ended (R7). -/
def release (s : State) : State := s.withArbiter { s.arbiter with grant := none }

/-- The scanner requests the latch of a row (R126). -/
def requestRow (row : Nat) (s : State) : State :=
  arbitrate (s.withArbiter { s.arbiter with rowRequest := some ⟨row, false⟩ })

/-- The host port requests a data-port grant (R11). -/
def requestPort (access : PortAccess) (s : State) : State :=
  arbitrate (s.withArbiter { s.arbiter with portRequest := some access })

/-- Whether a grant is the engine's. -/
def Grant.isEngine : Grant → Bool
  | .engine _ => true
  | .row _ _ | .port _ => false

/-- Whether the engine has a request waiting or a grant in progress: it raises the next only after the
previous grant has ended (R12). -/
def engineBusy (s : State) : Bool :=
  s.arbiter.engineRequest.isSome || s.arbiter.grant.any Grant.isEngine

/-- The next access of a running command, from its working state (R68, R79). -/
def Current.nextAccess (c : Current) : Option EngineAccess :=
  match c.entry.kind with
  | .copy =>
    match c.copyByte with
    | none =>
      some (.copyRead (c.entry.copySource c.progress) (c.entry.copyDestination c.progress))
    | some v => some (.copyWrite (c.entry.copyDestination c.progress) v)
  | .stamp =>
    match c.phase with
    | .reading => some (.stampRead (c.entry.stampSource c.progress c.byteIndex))
    | .writing =>
      some (.stampModify (c.entry.stampDestination c.progress c.byteIndex)
        (c.entry.stampMask c.byteIndex) (c.entry.stampBits c.rowBuffer c.byteIndex)
        c.entry.operator)
  | .present | .zone | .wait | .mark => none

/-- A RUNNING engine raises the next request of its command, unless one of its accesses is still waiting
or in progress (R12, R49). R12 says only that it raises the request after its previous grant has ended;
that it does so in the event that begins the command or ends that grant, before the arbiter serves what
waits, is the model's choice (assumption 34). -/
def raiseEngine (s : State) : State :=
  match s.engine.state, s.engine.current with
  | .running, some c =>
    if engineBusy s then s
    else
      match c.nextAccess with
      | some a => arbitrate (s.withArbiter { s.arbiter with engineRequest := some ⟨a, false⟩ })
      | none => s
  | _, _ => s

/-! ## The ending of a command -/

/-- The engine goes on after a normal ending whose record, if due, has been written (R51): the command is
removed. The engine enters PAUSED if a pause was requested; otherwise the take of the head entry is due
if the queue holds one, and the engine is IDLE if it is empty. The take is a step of its own
(assumption 3). -/
def goOn (s : State) : State :=
  s.withEngine {
    state := if s.engine.pauseRequested then .paused else .idle
    current := none
    holdReason := .none
    pauseRequested := false
    waitingRecord := none
    takeDue := !s.engine.pauseRequested && !s.queue.isEmpty }

/-- Whether a record is due (R50): a MARK, NOTIFY, an ABORTED ending, a fault. -/
def recordDue (e : Entry) (status : Status) : Bool :=
  e.kind == .mark || e.notify || status == .aborted || status.isFault

/-- The current command ends normally (R50): its record, if due, is written at the tail of the ring and
the engine goes on, or waits in STALLED while the ring holds 8 records. -/
def complete (status : Status) (progress : Nat) (clipped held : Bool) (s : State) : State :=
  match s.engine.current with
  | none => s
  | some c =>
    if recordDue c.entry status then
      let r : Record := ⟨c.entry.tag, c.entry.kind, status, progress, clipped, held⟩
      if s.ring.length < ringCapacity then goOn (s.withRing (s.ring ++ [r]))
      else
        s.withEngine { s.engine with
          state := .stalled, holdReason := .none, waitingRecord := some r }
    else goOn s

/-- The current command faults (R41): its record is written and the engine enters HALTED, or the record
waits in FAULT_PENDING while the ring holds 8 records. The pause request is kept (R53). -/
def faultWith (status : Status) (s : State) : State :=
  match s.engine.current with
  | none => s
  | some c =>
    let r : Record := ⟨c.entry.tag, c.entry.kind, status, 0, false, c.heldOnce⟩
    if s.ring.length < ringCapacity then
      (s.withRing (s.ring ++ [r])).withEngine { s.engine with
        state := .halted, current := none, holdReason := .none, waitingRecord := none }
    else
      s.withEngine { s.engine with
        state := .faultPending, holdReason := .none, waitingRecord := some r }

/-! ## Beginning, holding and handing over -/

/-- A COPY or STAMP begins (R40, R74): the engine is RUNNING, the clipped mark of a STAMP is set if its
rectangle passes the page's edge, and the first request is raised. -/
def beginDrawing (s : State) : State :=
  match s.engine.current with
  | none => s
  | some c =>
    raiseEngine (s.withEngine { s.engine with
      state := .running
      holdReason := .none
      current := some { c with clipped := c.entry.kind == .stamp && c.entry.isClipped } })

/-- The current command is held (R43, R44): HELD with the reason, the held-once mark set. -/
def hold (reason : HoldReason) (s : State) : State :=
  match s.engine.current with
  | none => s
  | some c =>
    s.withEngine { s.engine with
      state := .held, holdReason := reason, current := some { c with heldOnce := true } }

/-- The hold rule for the current COPY or STAMP (R43). -/
def holdRule (s : State) : State :=
  match s.engine.current with
  | none => s
  | some c =>
    match s.pages.pending with
    | some q =>
      if c.entry.touches q || c.entry.touches s.pages.shown then hold .page s else beginDrawing s
    | none =>
      if scanRunning s && c.entry.touches s.pages.shown then faultWith .shownPage s
      else beginDrawing s

/-- The hand-over of the current PRESENT (R57, R104, R105). While the scan runs its page becomes pending
and the command completes, or with WAIT_SHOWN waits for the switch. While the scan is stopped its page
is shown at once and the command completes. -/
def handOver (s : State) : State :=
  match s.engine.current with
  | none => s
  | some c =>
    if scanRunning s then
      let s1 := s.withPages { s.pages with pending := some c.entry.presentPage }
      if c.entry.waitShown then
        s1.withEngine { s1.engine with state := .waiting, holdReason := .none }
      else complete .done 0 false c.heldOnce s1
    else
      complete .done 0 false c.heldOnce
        (s.withPages { s.pages with shown := c.entry.presentPage })

/-! ## The switch, and scan events at the engine -/

/-- A pending page becomes the shown page (R107, R108). -/
def switchPage (s : State) : State :=
  match s.pages.pending with
  | some p => s.withPages ⟨p, none⟩
  | none => s

/-- A HELD command is judged again after a switch (R45, R46): reason PAGE by the hold rule, reason PRESENT
by the hand-over. -/
def reevaluate (s : State) : State :=
  match s.engine.holdReason with
  | .page => holdRule s
  | .present => handOver s
  | .none => s

/-- The engine takes its part of a boundary or of a stop of the scan, after the presentation unit's
(R110, R122). `counted`: a pair boundary, which a WAIT counts (R54). `stopped`: the scan has stopped,
which ends a WAIT (R55). `switched`: the shown page was replaced, which completes the WAIT_SHOWN PRESENT
of that page (R111) and judges a HELD command again (R45). -/
def engineTakesScanEvent (counted stopped switched : Bool) (s : State) : State :=
  match s.engine.state, s.engine.current with
  | .waiting, some c =>
    match c.entry.kind with
    | .wait =>
      let n := if counted then c.progress + 1 else c.progress
      let s1 := s.withEngine { s.engine with current := some { c with progress := n } }
      if counted && decide (c.entry.d.toNat ≤ n) then complete .done n false false s1
      else if stopped then complete .noScan n false false s1
      else s1
    | .present =>
      if switched && c.entry.presentPage == s.pages.shown then complete .done 0 false c.heldOnce s
      else s
    | .copy | .stamp | .zone | .mark => s
  | .held, some _ => if switched then reevaluate s else s
  | _, _ => s

/-! ## The panel -/

/-- The panel changes state, which latches PANEL (R143). -/
def enterPanel (p : PanelState) (s : State) : State :=
  latchPanel (s.withPanel { s.panel with state := p })

/-- The release of the discharge timer: 1024 reference ticks (R152). -/
def dischargeTicks : Nat := 1024

/-- The panel enters DISCHARGING (R148, R152, R158): pending request, show-after-charge and charge timer
cleared, the actual contrast 0 and the discharge timer loaded. -/
def enterDischarging (s : State) : State :=
  enterPanel .discharging (s.withPanel { s.panel with
    pending := .none
    showAfterCharge := false
    chargeTimer := none
    dischargeTimer := some dischargeTicks
    contrastActual := 0#5 })

/-- A row request or row-read grant whose bytes are to be discarded (R123). -/
def Arbiter.discardRow (b : Arbiter) : Arbiter :=
  { b with
    rowRequest := b.rowRequest.map (fun r => { r with discarded := true })
    grant := b.grant.map (fun g =>
      match g with
      | .row r p => .row { r with discarded := true } p
      | .port p => .port p
      | .engine e => .engine e) }

/-- What a stop of the scan does at the scanner and the compositor (R123): the drive of the row in
progress ends, and what a row latch already requested returns is discarded. The position has no meaning
while the scan is stopped, and the model keeps it at row 0 of a positive frame (assumption 14). -/
def stopDrive (s : State) : State :=
  ((s.withScanner { s.scanner with polarity := .positive, row := 0, tick := 0 }).withCompositor
    { s.compositor with rowDots := none }).withArbiter s.arbiter.discardRow

/-- The emergency discharge (R158): a running scan stops at no boundary, the panel enters DISCHARGING, a
pending page is switched at the stop (R108), and the engine ends a WAIT and judges held work (R55, R45). -/
def emergencyDischarge (s : State) : State :=
  if scanRunning s then
    let switched := s.pages.pending.isSome
    engineTakesScanEvent false true switched (switchPage (stopDrive (enterDischarging s)))
  else enterDischarging s

end Sys2Proof.Machine
end

