-- ==== Sys2Proof/Machine/Takes.lean ====
section
/-! DEFINITION. The takes (spec/03_drawing_engine.md, R38 to R44, R54 to R58): the engine removes the head
entry of the queue, checks it, and begins it, holds it, faults it or completes it, in one event. A take
finds the engine IDLE, where R51, R61 and R63 leave it, with an entry of its kind at the head of the
queue; elsewhere the engine takes nothing and the state stays as it is (R30, R33, R38, assumption 2).
Every other event finds the takes that R51, R61 and R63 let follow at once already taken. -/

namespace Sys2Proof.Machine

/-- A new current command: progress 0 and every mark clear (R38). -/
def Current.ofEntry (e : Entry) : Current := ⟨e, 0, false, false, false, none, .reading, 0, []⟩

/-- The take (R30, R38): with the engine IDLE and an entry of kind `k` at the head, the entry leaves the
queue and becomes the current command. -/
def takeHead (k : Kind) (s : State) : Option (Entry × State) :=
  match s.engine.state, s.queue with
  | .idle, e :: rest =>
    if e.kind = k then
      some (e, (s.withQueue rest).withEngine { s.engine with
        current := some (Current.ofEntry e), takeDue := false })
    else none
  | _, _ => none

/-- A take, whole: the check decides between the fault and the disposal (R38, R39, R41). -/
def takeAnd (k : Kind) (dispose : Entry → State → State) (s : State) : State :=
  match takeHead k s with
  | none => s
  | some (e, s1) =>
    match e.check with
    | some f => faultWith f s1
    | none => dispose e s1

/-- The disposal of a COPY or STAMP: it begins under LIVE, and otherwise the hold rule decides (R40). -/
def disposeDrawing (e : Entry) (s : State) : State := if e.live then beginDrawing s else holdRule s

/-- The disposal of a PRESENT: held while a present is pending, and otherwise handed over (R44, R57). -/
def disposePresent (_ : Entry) (s : State) : State :=
  if s.pages.pending.isSome then hold .present s else handOver s

/-- The disposal of a ZONE: the staged entry is written, and the active one too while the scan is
stopped, and the command completes (R58, R133). -/
def disposeZone (e : Entry) (s : State) : State :=
  let staged := s.compositor.stagedZones.set e.zoneIndex e.zoneEntry
  let active :=
    if scanRunning s then s.compositor.activeZones
    else s.compositor.activeZones.set e.zoneIndex e.zoneEntry
  complete .done 0 false false
    (s.withCompositor { s.compositor with stagedZones := staged, activeZones := active })

/-- The disposal of a WAIT: WAITING while the scan runs, and NO_SCAN at once while it is stopped (R54). -/
def disposeWait (_ : Entry) (s : State) : State :=
  if scanRunning s then s.withEngine { s.engine with state := .waiting }
  else complete .noScan 0 false false s

/-- The disposal of a MARK: DONE at once, its record always due (R56). -/
def disposeMark (_ : Entry) (s : State) : State := complete .done 0 false false s

/-- What the engine does with an entry of a kind whose checks have passed (R40). -/
def disposal : Kind → Entry → State → State
  | .copy => disposeDrawing
  | .stamp => disposeDrawing
  | .present => disposePresent
  | .zone => disposeZone
  | .wait => disposeWait
  | .mark => disposeMark

/-- The take of the head entry, whatever its kind. -/
def takeNext (s : State) : State :=
  match s.queue with
  | [] => s
  | e :: _ => takeAnd e.kind (disposal e.kind) s

/-- The takes that are due are taken, one after another (R40, R51); each removes an entry from the queue. -/
def settleTakes : Nat → State → State
  | 0, s => s
  | n + 1, s => if s.engine.takeDue then settleTakes n (takeNext s) else s

/-- An event of the part: it is taken after the takes that are due, since the engine goes on to them at
once (R38, R51). -/
def onEvent (event : State → State) (s : State) : State := event (settleTakes queueCapacity s)

/-- COPY (R38 to R43, R65 to R67). -/
def execCopy (s : State) : Answer := .next (takeAnd .copy disposeDrawing s)

/-- STAMP (R38 to R43, R73 to R76). -/
def execStamp (s : State) : Answer := .next (takeAnd .stamp disposeDrawing s)

/-- PRESENT (R44, R57). -/
def execPresent (s : State) : Answer := .next (takeAnd .present disposePresent s)

/-- ZONE (R58, R133). -/
def execZone (s : State) : Answer := .next (takeAnd .zone disposeZone s)

/-- WAIT (R54). -/
def execWait (s : State) : Answer := .next (takeAnd .wait disposeWait s)

/-- MARK (R56). -/
def execMark (s : State) : Answer := .next (takeAnd .mark disposeMark s)

end Sys2Proof.Machine
end

