-- ==== Sys2Proof/Machine/Grants.lean ====
section
/-! DEFINITION. The grants that end (R8, R10, R11, R68, R78, R79): the row latch, the data port's byte
read and write, and the engine's reads, writes and locked read-modify-writes. When a grant has ended its
client acts on it, the engine raises its next request, and the arbiter serves the waiting request of
highest priority (R7, R9). A command that names a grant other than the one in progress changes nothing
(assumption 2). -/

namespace Sys2Proof.Machine

/-- The end of a row-read grant (R10, R126): the compositor fixes the dot values of the row, unless the
scan has stopped since the row was requested, when the bytes drive nothing (R123). A read that ends only
after the next row or frame has begun, which R9 rules out, is composed all the same, and drives its dots
until the latch of the row then in progress: the model's choice (assumption 31). -/
def endRowRead (r : RowRequest) (page : Fin 4) (s : State) : State :=
  let s1 := release s
  if r.discarded then arbitrate s1
  else
    arbitrate (s1.withCompositor { s1.compositor with
      rowDots := some (composeRow s r.row (rowBytes s page r.row)) })

/-- The end of a data-port grant (R11, R168, R169): the byte read is returned, or the byte written is
stored. -/
def endPortAccess (p : PortAccess) (s : State) : State :=
  let s1 := release s
  match p with
  | .read a => arbitrate (s1.withPort { s1.port with readValue := some (byteAt s a) })
  | .write a v => arbitrate (writeByte a v s1)

/-- `s` with the current command replaced. -/
def setCurrent (c : Current) (s : State) : State :=
  s.withEngine { s.engine with current := some c }

/-- The end of a COPY's source read (R68): the value read is held and the destination write is requested;
it is requested even when the command has been dropped (R16). -/
def endCopyRead (source destination : Nat) (dropped : Bool) (s : State) : State :=
  let v := byteAt s source
  let s1 := release s
  if dropped then
    arbitrate (s1.withArbiter { s1.arbiter with
      engineRequest := some ⟨.copyWrite destination v, true⟩ })
  else
    match s1.engine.current with
    | none => arbitrate s1
    | some c => arbitrate (raiseEngine (setCurrent { c with copyByte := some v } s1))

/-- A COPY byte has been written (R68, R72): progress rises, and the command stops at an abort, completes
with its last byte, or goes on to the next. -/
def copyByteWritten (s : State) : State :=
  match s.engine.current with
  | none => s
  | some c =>
    let n := c.progress + 1
    let s1 := setCurrent { c with progress := n, copyByte := none } s
    if c.abortNoted then complete .aborted n false c.heldOnce s1
    else if c.entry.count ≤ n then complete .done n false c.heldOnce s1
    else raiseEngine s1

/-- The end of a COPY's destination write (R68). The access of a dropped command leaves the engine free
to raise the request of the command it runs (R12, assumption 15); it ends before the host's next access
(R16, R162), and so before any command can be pushed and taken (Access.lean). -/
def endCopyWrite (destination : Nat) (v : Byte) (dropped : Bool) (s : State) : State :=
  let s1 := writeByte destination v (release s)
  arbitrate (if dropped then raiseEngine s1 else copyByteWritten s1)

/-- The end of a STAMP's source read (R79): the byte joins the row buffer, and the write phase begins
after the last byte of the row. -/
def endStampRead (source : Nat) (dropped : Bool) (s : State) : State :=
  let v := byteAt s source
  let s1 := release s
  if dropped then arbitrate (raiseEngine s1)
  else
    match s1.engine.current with
    | none => arbitrate s1
    | some c =>
      let last := decide (c.entry.sourceBytes ≤ c.byteIndex + 1)
      let c1 : Current := { c with
        rowBuffer := c.rowBuffer ++ [v]
        phase := if last then .writing else .reading
        byteIndex := if last then 0 else c.byteIndex + 1 }
      arbitrate (raiseEngine (setCurrent c1 s1))

/-- A STAMP byte has been combined (R79 to R81): with the last byte of the row progress rises, and the
command stops at an abort, completes with its last unclipped row, or goes on to the next row. -/
def stampByteWritten (s : State) : State :=
  match s.engine.current with
  | none => s
  | some c =>
    if c.byteIndex + 1 < c.entry.destinationBytes then
      raiseEngine (setCurrent { c with byteIndex := c.byteIndex + 1 } s)
    else
      let n := c.progress + 1
      let s1 := setCurrent
        { c with progress := n, phase := .reading, byteIndex := 0, rowBuffer := [] } s
      if c.abortNoted then complete .aborted n c.clipped c.heldOnce s1
      else if c.entry.unclippedHeight ≤ n then complete .done n c.clipped c.heldOnce s1
      else raiseEngine s1

/-- The end of a STAMP's locked read-modify-write (R77, R78): the byte as it stands is combined by the
operator and written back. -/
def endStampModify (destination : Nat) (mask bits : Byte) (operator : StampOperator)
    (dropped : Bool) (s : State) : State :=
  let v := operator.combine (byteAt s destination) mask bits
  let s1 := writeByte destination v (release s)
  arbitrate (if dropped then raiseEngine s1 else stampByteWritten s1)

/-- The end of an engine access. -/
def endEngineAccess (e : EngineRequest) (s : State) : State :=
  match e.access with
  | .copyRead source destination => endCopyRead source destination e.dropped s
  | .copyWrite destination v => endCopyWrite destination v e.dropped s
  | .stampRead source => endStampRead source e.dropped s
  | .stampModify destination mask bits operator =>
    endStampModify destination mask bits operator e.dropped s

/-- The grant in progress, whatever it is, ends; with none in progress a waiting request is granted. -/
def endGrant (s : State) : State :=
  match s.arbiter.grant with
  | none => arbitrate s
  | some (.row r p) => endRowRead r p s
  | some (.port p) => endPortAccess p s
  | some (.engine e) => endEngineAccess e s

/-- The row-read grant in progress ends; with none in progress nothing happens. -/
def rowGrantEnds (s : State) : State :=
  match s.arbiter.grant with
  | some (.row r p) => endRowRead r p s
  | _ => s

/-- The data-port grant in progress ends; with none in progress nothing happens. -/
def portGrantEnds (s : State) : State :=
  match s.arbiter.grant with
  | some (.port p) => endPortAccess p s
  | _ => s

/-- The grant of a COPY source byte ends; with none in progress nothing happens. -/
def copyReadEnds (s : State) : State :=
  match s.arbiter.grant with
  | some (.engine ⟨.copyRead source destination, dropped⟩) => endCopyRead source destination dropped s
  | _ => s

/-- The grant of a COPY destination byte ends; with none in progress nothing happens. -/
def copyWriteEnds (s : State) : State :=
  match s.arbiter.grant with
  | some (.engine ⟨.copyWrite destination v, dropped⟩) => endCopyWrite destination v dropped s
  | _ => s

/-- The grant of a STAMP source byte ends; with none in progress nothing happens. -/
def stampReadEnds (s : State) : State :=
  match s.arbiter.grant with
  | some (.engine ⟨.stampRead source, dropped⟩) => endStampRead source dropped s
  | _ => s

/-- The locked grant of a STAMP destination byte ends; with none in progress nothing happens. -/
def stampModifyEnds (s : State) : State :=
  match s.arbiter.grant with
  | some (.engine ⟨.stampModify destination mask bits operator, dropped⟩) =>
    endStampModify destination mask bits operator dropped s
  | _ => s

/-- ROW_LATCH (R10, R126). -/
def execRowLatch (s : State) : Answer := .next (onEvent rowGrantEnds s)

/-- DATA_PORT_GRANT (R11). -/
def execDataPortGrant (s : State) : Answer := .next (onEvent portGrantEnds s)

/-- COPY_SOURCE_READ (R68). -/
def execCopySourceRead (s : State) : Answer := .next (onEvent copyReadEnds s)

/-- COPY_DESTINATION_WRITE (R68). -/
def execCopyDestinationWrite (s : State) : Answer := .next (onEvent copyWriteEnds s)

/-- STAMP_SOURCE_READ (R79). -/
def execStampSourceRead (s : State) : Answer := .next (onEvent stampReadEnds s)

/-- STAMP_READ_MODIFY_WRITE (R78). -/
def execStampReadModifyWrite (s : State) : Answer := .next (onEvent stampModifyEnds s)

end Sys2Proof.Machine
end

