-- ==== Sys2Proof/Machine/Access.lean ====
section
/-! DEFINITION. How an access of the host is taken (R161, R162, R169): not while the part is in reset, and
after what the accesses before it have left at the arbiter has ended: the data-port grant of a PORT_DATA
access and the engine access that an ENGINE_RESET leaves to be finished; and how a data-port access leaves
the engine its turn (R9). -/

namespace Sys2Proof.Machine

/-- Whether a data-port grant is waiting or in progress. -/
def portBusy (s : State) : Bool :=
  s.arbiter.portRequest.isSome ||
    match s.arbiter.grant with
    | some (.port _) => true
    | some (.row _ _) | some (.engine _) | none => false

/-- Whether an access of a command that an ENGINE_RESET has dropped is waiting or in progress (R16). -/
def droppedOutstanding (s : State) : Bool :=
  s.arbiter.engineRequest.any EngineRequest.dropped ||
    match s.arbiter.grant with
    | some (.engine e) => e.dropped
    | some (.row _ _) | some (.port _) | none => false

/-- Whether an access of the host has left something at the arbiter that ends before its next access: its
data-port grant (R169), or the access that its ENGINE_RESET leaves to be finished (R16, R162). -/
def accessOutstanding (s : State) : Bool := portBusy s || droppedOutstanding s

/-- What an access of the host has left at the arbiter ends before the next is taken: a data-port grant
(R168, R169), and the access of a dropped command, whose finishing is an effect of ENGINE_RESET (R16) and
so in place before the next access (R162, assumption 33). The grants ahead of it end first, in the
arbiter's order (R9, assumption 10). -/
def settleAccess : Nat → State → State
  | 0, s => s
  | n + 1, s => if accessOutstanding s then settleAccess n (endGrant s) else s

/-- How many grants can end until nothing is outstanding: the one in progress, which may be the source read
of a dropped COPY byte, one row latch, the data port's, and the destination write of that byte. -/
def settleBound : Nat := 4

/-- A data-port access comes when the engine request owed a grant has been granted (R9: between two
data-port grants in a row, an engine request that was waiting when the first of them began is granted).
The grants ahead of it end first, and they are row latches (assumption 30). -/
def settleEngine : Nat → State → State
  | 0, s => s
  | n + 1, s => if s.arbiter.engineOwed then settleEngine n (endGrant s) else s

/-- The state a data-port grant is requested in. -/
def beforePortGrant (s : State) : State := settleEngine settleBound s

/-- The state an access of the host meets: the takes that are due have been taken (R51), and what the last
access left at the arbiter has ended (R162, R169). -/
def beforeAccess (s : State) : State :=
  onEvent (fun t => settleTakes queueCapacity (settleAccess settleBound t)) s

/-- An access of the host: nothing while the part is in reset, when no bus cycle is taken (R161, R176,
R177), and otherwise its effect on the state it meets. -/
def onBus (effect : State → State) (s : State) : State :=
  if inReset s then s else effect (beforeAccess s)

end Sys2Proof.Machine
end

