-- ==== Sys2Proof/Machine/Queue.lean ====
section
/-! DEFINITION. The command queue (spec/02_command_queue.md): PUSH, SPACE_THRESHOLD, FLUSH. -/

namespace Sys2Proof.Machine

/-- The entry a push makes from the staging registers (R25). -/
def stagedEntry (k : Kind) (g : Staging) : Entry := ⟨k, g.tag, g.flags, g.a, g.b, g.c, g.d, g.e⟩

/-- The push of R26: an unassigned kind latches REJECT, a full queue latches OVERRUN, and otherwise the
entry joins at the tail. -/
def pushEntry (code : Byte) (s : State) : State :=
  match kindOfCode code with
  | none => latchReject s
  | some k =>
    if s.queue.length < queueCapacity then s.withQueue (s.queue ++ [stagedEntry k s.staging])
    else latchOverrun s

/-- A write of SPACE_THRESHOLD: 1 to 16 replaces it, any other value is refused (R32). -/
def setSpaceThreshold (v : Byte) (s : State) : State :=
  if 1 ≤ v.toNat ∧ v.toNat ≤ 16 then s.withSpaceThreshold v else refuse s

/-- FLUSH: every entry is removed, without records (R33). -/
def flushQueue (s : State) : State := s.withQueue []

/-- PUSH (R26). -/
def execPush (code : Byte) (s : State) : Answer := .next (onBus (pushEntry code) s)

/-- SPACE_THRESHOLD (R32). -/
def execSpaceThreshold (v : Byte) (s : State) : Answer := .next (onBus (setSpaceThreshold v) s)

/-- FLUSH (R33). -/
def execFlush (s : State) : Answer := .next (onBus flushQueue s)

end Sys2Proof.Machine
end

