-- ==== Sys2Proof/Machine/EngineRequests.lean ====
section
/-! DEFINITION. The engine requests (spec/03_drawing_engine.md, section 3.6, and R94, R96): PAUSE, RESUME,
ABORT, CONTINUE, ENGINE_RESET and POP in every engine state, and the refusal of every other code. FLUSH
is the queue's (Queue.lean). -/

namespace Sys2Proof.Machine

/-- `s` with the engine in another state. -/
def setEngineState (x : EngineState) (s : State) : State := s.withEngine { s.engine with state := x }

/-- `s` with pause-requested set or clear. -/
def setPauseRequested (x : Bool) (s : State) : State :=
  s.withEngine { s.engine with pauseRequested := x }

/-- PAUSE (R60, Table 3-3). -/
def pauseEngine (s : State) : State :=
  if s.engine.pauseRequested then refuse s
  else
    match s.engine.state with
    | .idle | .held => setEngineState .paused s
    | .running | .waiting | .stalled | .faultPending | .halted => setPauseRequested true s
    | .paused => refuse s

/-- The engine stands ready (R61, R63): the take of the head entry is due if the queue holds one, and the
engine is IDLE if it is empty. -/
def standReady (s : State) : State :=
  s.withEngine { s.engine with state := .idle, takeDue := !s.queue.isEmpty }

/-- RESUME of a PAUSED engine (R61): a held command is judged again, and with none current the engine
takes, or is IDLE. A PRESENT is held again while a present is pending. -/
def leavePaused (s : State) : State :=
  match s.engine.current with
  | none => standReady s
  | some _ =>
    match s.engine.holdReason with
    | .page => holdRule s
    | .present => if s.pages.pending.isSome then hold .present s else handOver s
    | .none => s

/-- RESUME (R61, Table 3-3). -/
def resumeEngine (s : State) : State :=
  match s.engine.state with
  | .paused => leavePaused s
  | .idle | .running | .held | .waiting | .stalled | .faultPending | .halted =>
    if s.engine.pauseRequested then setPauseRequested false s else refuse s

/-- Whether the byte (COPY) or row (STAMP) of the running command is in progress (R72, R81): its grant is
in progress, or it stands between two grants of one byte or row. -/
def drawingInProgress (c : Current) (s : State) : Bool :=
  (match s.arbiter.grant with
    | some (.engine e) => !e.dropped
    | some (.row _ _) | some (.port _) | none => false) ||
  match c.entry.kind with
  | .copy => c.copyByte.isSome
  | .stamp => c.phase == .writing || decide (0 < c.byteIndex)
  | .present | .zone | .wait | .mark => false

/-- A waiting request of the current command is withdrawn; one of a dropped command stays (R16, R72,
R81). A request withdrawn is owed no grant. -/
def Arbiter.withdrawEngine (b : Arbiter) : Arbiter :=
  let request := b.engineRequest.filter (fun e => e.dropped)
  { b with engineRequest := request, engineOwed := b.engineOwed && request.isSome }

/-- ABORT of a RUNNING command (R62, R72, R81): it is noted while a byte or row is in progress, and
otherwise a waiting request is withdrawn and the command ends at once. -/
def abortRunning (c : Current) (s : State) : State :=
  if c.abortNoted then refuse s
  else if drawingInProgress c s then
    s.withEngine { s.engine with current := some { c with abortNoted := true } }
  else complete .aborted c.progress c.clipped c.heldOnce (s.withArbiter s.arbiter.withdrawEngine)

/-- ABORT (R62, Table 3-3). In PAUSED it sets pause-requested, so that the engine returns to PAUSED. -/
def abortCommand (s : State) : State :=
  match s.engine.state, s.engine.current with
  | .running, some c => abortRunning c s
  | .held, some _ => complete .aborted 0 false true s
  | .waiting, some c =>
    match c.entry.kind with
    | .wait => complete .aborted c.progress false false s
    | .present => complete .aborted 0 false c.heldOnce s
    | .copy | .stamp | .zone | .mark => refuse s
  | .paused, some _ => complete .aborted 0 false true (setPauseRequested true s)
  | _, _ => refuse s

/-- CONTINUE (R63): out of HALTED to PAUSED if a pause was requested, and otherwise to where the engine
takes or is IDLE; refused in every other state. -/
def continueEngine (s : State) : State :=
  match s.engine.state with
  | .halted =>
    if s.engine.pauseRequested then
      s.withEngine { s.engine with state := .paused, pauseRequested := false }
    else standReady s
  | .idle | .running | .held | .waiting | .stalled | .faultPending | .paused => refuse s

/-- What an engine reset does to the engine's accesses (R16): a COPY byte whose source-read grant has
begun is finished, a locked grant or STAMP read in progress completes, and every other waiting request
is withdrawn. -/
def Arbiter.dropEngine (b : Arbiter) : Arbiter :=
  let request : Option EngineRequest := b.engineRequest.bind (fun e =>
    match e.access with
    | .copyWrite d v => some ⟨.copyWrite d v, true⟩
    | .copyRead _ _ | .stampRead _ | .stampModify _ _ _ _ => none)
  { b with
    engineRequest := request
    engineOwed := b.engineOwed && request.isSome
    grant := b.grant.map (fun g =>
      match g with
      | .engine e => .engine { e with dropped := true }
      | .row r p => .row r p
      | .port p => .port p) }

/-- ENGINE_RESET (R16, R35, R64, R99, R116, R135). -/
def resetEngine (s : State) : State :=
  ((((((s.withArbiter s.arbiter.dropEngine).withQueue []).withStaging Staging.reset).withEngine
    Engine.reset).withRing []).withPages { s.pages with pending := none }).withCompositor
    { s.compositor with stagedZones := s.compositor.activeZones }

/-- POP (R94, R96): the head record is removed and a waiting record is written at the tail in the same
event, after which the engine goes on from STALLED, or enters HALTED from FAULT_PENDING. Refused when
the ring is empty. -/
def popRecord (s : State) : State :=
  match s.ring with
  | [] => refuse s
  | _ :: rest =>
    match s.engine.state, s.engine.waitingRecord with
    | .stalled, some w => goOn (s.withRing (rest ++ [w]))
    | .faultPending, some w =>
      (s.withRing (rest ++ [w])).withEngine { s.engine with
        state := .halted, current := none, waitingRecord := none }
    | _, _ => s.withRing rest

/-- A write of ENGINE_REQUEST: the request its code names, or a refusal (R59). -/
def engineRequest (code : Byte) (s : State) : State :=
  match code.toNat with
  | 1 => pauseEngine s
  | 2 => resumeEngine s
  | 3 => abortCommand s
  | 4 => continueEngine s
  | 5 => flushQueue s
  | 6 => resetEngine s
  | 7 => popRecord s
  | _ => refuse s

/-- PAUSE (R60). -/
def execPause (s : State) : Answer := .next (onBus pauseEngine s)

/-- RESUME (R61). -/
def execResume (s : State) : Answer := .next (onBus resumeEngine s)

/-- ABORT (R62). -/
def execAbort (s : State) : Answer := .next (onBus abortCommand s)

/-- CONTINUE (R63). -/
def execContinue (s : State) : Answer := .next (onBus continueEngine s)

/-- ENGINE_RESET (R64). -/
def execEngineReset (s : State) : Answer := .next (onBus resetEngine s)

/-- POP (R94). -/
def execPop (s : State) : Answer := .next (onBus popRecord s)

/-- UNASSIGNED_ENGINE_REQUEST (R59): refused, for a code that is unassigned. -/
def execUnassignedEngineRequest (code : Byte) (s : State) : Answer :=
  .next (onBus (engineRequest code) s)

end Sys2Proof.Machine
end

