-- ==== Sys2Proof/Machine/PanelRequests.lean ====
section
/-! DEFINITION. The panel requests (spec/08_panel_power_and_contrast.md, section 8.2): POWER_ON, SHOW,
BLANK and POWER_OFF in every panel state, and the refusal of every other code. -/

namespace Sys2Proof.Machine

/-- POWER_ON (R146, Table 8-2): from OFF while the supply state is OK, the panel enters CHARGING with the
charge timer loaded from CHARGE_TIME. -/
def powerOnPanel (s : State) : State :=
  if s.panel.state = .off ∧ s.supply.state = .ok then
    enterPanel .charging (s.withPanel { s.panel with
      showAfterCharge := false, chargeTimer := some (chargeTicks s.panel.chargeTime) })
  else refuse s

/-- SHOW (R147, Table 8-2). -/
def requestShow (s : State) : State :=
  match s.panel.state with
  | .charging => s.withPanel { s.panel with showAfterCharge := true }
  | .blanked => s.withPanel { s.panel with pending := .show }
  | .showing => s.withPanel { s.panel with pending := .none }
  | .off | .stopping | .discharging => refuse s

/-- BLANK (R147, Table 8-2). -/
def requestBlank (s : State) : State :=
  match s.panel.state with
  | .charging => s.withPanel { s.panel with showAfterCharge := false }
  | .blanked => s.withPanel { s.panel with pending := .none }
  | .showing => s.withPanel { s.panel with pending := .blank }
  | .off | .stopping | .discharging => refuse s

/-- POWER_OFF (R148, Table 8-2): never refused. -/
def powerOffPanel (s : State) : State :=
  match s.panel.state with
  | .charging => enterDischarging s
  | .blanked | .showing => enterPanel .stopping (s.withPanel { s.panel with pending := .none })
  | .off | .stopping | .discharging => s

/-- A write of PANEL_REQUEST: the request its code names, or a refusal (R145). -/
def panelRequest (code : Byte) (s : State) : State :=
  match code.toNat with
  | 1 => powerOnPanel s
  | 2 => requestShow s
  | 3 => requestBlank s
  | 4 => powerOffPanel s
  | _ => refuse s

/-- POWER_ON (R146). -/
def execPowerOn (s : State) : Answer := .next (onBus powerOnPanel s)

/-- SHOW (R147). -/
def execShow (s : State) : Answer := .next (onBus requestShow s)

/-- BLANK (R147). -/
def execBlank (s : State) : Answer := .next (onBus requestBlank s)

/-- POWER_OFF (R148). -/
def execPowerOff (s : State) : Answer := .next (onBus powerOffPanel s)

/-- UNASSIGNED_PANEL_REQUEST (R145): refused, for a code that is unassigned. -/
def execUnassignedPanelRequest (code : Byte) (s : State) : Answer :=
  .next (onBus (panelRequest code) s)

end Sys2Proof.Machine
end

