-- ==== Sys2Proof/Machine/Settings.lean ====
section
/-! DEFINITION. The settings the host writes: SCAN_CONFIG (R128, R129), BLINK_A and BLINK_B (R138), and
SUPPLY (R156). -/

namespace Sys2Proof.Machine

/-- A write of SCAN_CONFIG: the staged copy while the scan runs, both copies while it is stopped (R128). -/
def setScanConfig (v : Byte) (s : State) : State :=
  s.withScanner { s.scanner with
    staged := scanConfigOf v
    active := if scanRunning s then s.scanner.active else scanConfigOf v }

/-- A write of a group's register (R138): while the scan runs the staged setting and the restart mark are
set; while it is stopped both copies are set and the group restarts at once. -/
def Blink.write (b : Blink) (running : Bool) (setting : BlinkSetting) : Blink :=
  if running then { b with staged := setting, restart := true }
  else ⟨setting, setting, .on, 0, false⟩

/-- A write of BLINK_A or BLINK_B (R138). -/
def setBlink (group : BlinkGroup) (v : Byte) (s : State) : State :=
  match group with
  | .a => s.withCompositor { s.compositor with
      blinkA := s.compositor.blinkA.write (scanRunning s) (blinkSettingOf v) }
  | .b => s.withCompositor { s.compositor with
      blinkB := s.compositor.blinkB.write (scanRunning s) (blinkSettingOf v) }

/-- A write of SUPPLY (R156): a change of the enable empties the history and sets the state OK; a write
that leaves the enable changes nothing. The sample timer starts from 0 where the enable is set. Where it
is cleared R156 says only that the timer stops, and that it then stands at 0 is the model's choice
(assumption 32). -/
def setSupplyEnable (v : Byte) (s : State) : State :=
  if v.getLsbD 0 = s.supply.enabled then s
  else s.withSupply { s.supply with
    enabled := v.getLsbD 0, state := .ok, history := none, timer := 0 }

/-- SCAN_CONFIG (R128). -/
def execScanConfig (v : Byte) (s : State) : Answer := .next (onBus (setScanConfig v) s)

/-- BLINK_WRITE (R138). -/
def execBlinkWrite (group : BlinkGroup) (v : Byte) (s : State) : Answer :=
  .next (onBus (setBlink group v) s)

/-- SUPPLY_WRITE (R156). -/
def execSupplyWrite (v : Byte) (s : State) : Answer := .next (onBus (setSupplyEnable v) s)

end Sys2Proof.Machine
end

