-- ==== Sys2Proof/Machine/HostPort.lean ====
section
/-! DEFINITION. The host port (spec/09_host_port.md): IRQ_STATUS and IRQ_ENABLE writes, the data port,
the read of FRAME_COUNT lo, and the write of every other register. -/

namespace Sys2Proof.Machine

/-! ## The data port (R167 to R171) -/

/-- The pointer advances by the step, modulo 65536 (R171). -/
def advancePointer (s : State) : State :=
  s.withPort { s.port with pointer := s.port.step.advance s.port.pointer }

/-- A read of PORT_DATA at the pointer (R168, R170, R171). At a mapped pointer a byte read is requested,
after an engine request owed its grant (R9), and DATA_PORT_GRANT returns its value; at an unmapped one
the read returns 00h and latches ACCESS. -/
def readPortData (s : State) : State :=
  let a := s.port.pointer.toNat
  if mapped a then
    let s1 := beforePortGrant s
    requestPort (.read a) (advancePointer (s1.withPort { s1.port with readValue := none }))
  else latchAccess (advancePointer (s.withPort { s.port with readValue := some 0#8 }))

/-- A write of PORT_DATA at the pointer (R169, R170, R171). At a mapped pointer a byte write is requested,
after an engine request owed its grant (R9), and DATA_PORT_GRANT stores it; at an unmapped one the write
is dropped and latches ACCESS. -/
def writePortData (v : Byte) (s : State) : State :=
  let a := s.port.pointer.toNat
  if mapped a then requestPort (.write a v) (advancePointer (beforePortGrant s))
  else latchAccess (advancePointer s)

/-- A read of FRAME_COUNT lo: the low byte of the count is returned and the high byte is copied into the
holding copy (R124). -/
def readFrameCountLo (s : State) : State :=
  s.withPort { s.port with
    readValue := some (loByte s.scanner.frameCount), frameHold := hiByte s.scanner.frameCount }

/-! ## The window (R163, R164, Table 10-1) -/

/-- A write of a staging register (R24). -/
def setStaging (update : Staging → Staging) (s : State) : State := s.withStaging (update s.staging)

/-- A write of `v` to the register at `offset`, for every offset of the window: the value held is
replaced, the owning block takes a request, push or data-port access, or the write is disregarded
(R163). -/
def writeRegister (offset : BitVec 6) (v : Byte) (s : State) : State :=
  match offset.toNat with
  | 0x06 => engineRequest v s
  | 0x07 => setSpaceThreshold v s
  | 0x08 => pushEntry v s
  | 0x09 => setStaging (fun g => { g with tag := v }) s
  | 0x0A => setStaging (fun g => { g with flags := v.setWidth 7 }) s
  | 0x0B => setStaging (fun g => { g with a := withLo g.a v }) s
  | 0x0C => setStaging (fun g => { g with a := withHi g.a v }) s
  | 0x0D => setStaging (fun g => { g with b := withLo g.b v }) s
  | 0x0E => setStaging (fun g => { g with b := withHi g.b v }) s
  | 0x0F => setStaging (fun g => { g with c := withLo g.c v }) s
  | 0x10 => setStaging (fun g => { g with c := withHi g.c v }) s
  | 0x11 => setStaging (fun g => { g with d := v }) s
  | 0x12 => setStaging (fun g => { g with e := v }) s
  | 0x1B => setScanConfig v s
  | 0x20 => setBlink .a v s
  | 0x21 => setBlink .b v s
  | 0x23 => panelRequest v s
  | 0x25 => s.withPanel { s.panel with chargeTime := v.setWidth 2 }
  | 0x26 => s.withPanel { s.panel with contrastTarget := v.setWidth 5 }
  | 0x28 => setSupplyEnable v s
  | 0x29 => s.withPort { s.port with pointer := withLo s.port.pointer v }
  | 0x2A => s.withPort { s.port with pointer := withHi s.port.pointer v }
  | 0x2B => writePortData v s
  | 0x2C => s.withPort { s.port with step := portStepOf v }
  | 0x2D => clearIrq .lo v s
  | 0x2E => clearIrq .hi v s
  | 0x2F => enableIrq .lo v s
  | 0x30 => enableIrq .hi v s
  | 0x31 => s.withPort { s.port with
      zoneIndex := Fin.ofNat 8 (v.setWidth 3).toNat, zoneActive := v.getLsbD 3 }
  | _ => s

/-! ## The commands -/

/-- IRQ_STATUS_CLEAR (R173). -/
def execIrqStatusClear (byte : ByteSel) (v : Byte) (s : State) : Answer :=
  .next (onBus (clearIrq byte v) s)

/-- IRQ_ENABLE (R174). -/
def execIrqEnable (byte : ByteSel) (v : Byte) (s : State) : Answer :=
  .next (onBus (enableIrq byte v) s)

/-- PORT_DATA_READ (R168). -/
def execPortDataRead (s : State) : Answer :=
  .next (onBus readPortData s)

/-- PORT_DATA_WRITE (R169). -/
def execPortDataWrite (v : Byte) (s : State) : Answer :=
  .next (onBus (writePortData v) s)

/-- FRAME_COUNT_LO_READ (R124). -/
def execFrameCountLoRead (s : State) : Answer := .next (onBus readFrameCountLo s)

/-- REGISTER_WRITE (R163). -/
def execRegisterWrite (offset : BitVec 6) (v : Byte) (s : State) : Answer :=
  .next (onBus (writeRegister offset v) s)

end Sys2Proof.Machine
end

