-- ==== Sys2Proof/Machine/Bus.lean ====
section
/-! DEFINITION. Which access a bus cycle is (R161), and which command of the table that access is (R163).
The strobes themselves are pins; the commands of the table are accesses already taken. -/

namespace Sys2Proof.Machine

/-- Which strobe of a cycle fell first (R161). -/
inductive FirstStrobe where
  | read | write | together
deriving DecidableEq, Repr

/-- A cycle of the host bus: whether nCS is low, whether nRD and nWR are low at some time while it is,
which of the two fell first, and the address and data lines (R161). -/
structure BusCycle where
  selected    : Bool
  readStrobe  : Bool
  writeStrobe : Bool
  first       : FirstStrobe
  offset      : BitVec 6
  data        : Byte
deriving DecidableEq, Repr

/-- An access of the host. -/
inductive HostAccess where
  | read (offset : BitVec 6)
  | write (offset : BitVec 6) (value : Byte)
deriving DecidableEq, Repr

/-- The access taken for a cycle (R161): none with nCS high or no strobe; a cycle with both strobes is a
read if nRD fell first, and otherwise neither a read nor a write. -/
def BusCycle.access (c : BusCycle) : Option HostAccess :=
  match c.selected, c.readStrobe, c.writeStrobe with
  | false, _, _ => none
  | true, false, false => none
  | true, true, false => some (.read c.offset)
  | true, false, true => some (.write c.offset c.data)
  | true, true, true => if c.first = .read then some (.read c.offset) else none

/-- The command that a write of `v` to ENGINE_REQUEST is (R59). -/
def engineRequestCommand (v : Byte) : Instr :=
  match v.toNat with
  | 1 => .pause
  | 2 => .resume
  | 3 => .abort
  | 4 => .continueHalted
  | 5 => .flush
  | 6 => .engineReset
  | 7 => .pop
  | _ => .unassignedEngineRequest v

/-- The command that a write of `v` to PANEL_REQUEST is (R145). -/
def panelRequestCommand (v : Byte) : Instr :=
  match v.toNat with
  | 1 => .powerOn
  | 2 => .showPicture
  | 3 => .blankPicture
  | 4 => .powerOff
  | _ => .unassignedPanelRequest v

/-- The command that a write of `v` at `offset` is (Table 10-1). -/
def writeCommand (offset : BitVec 6) (v : Byte) : Instr :=
  match offset.toNat with
  | 0x06 => engineRequestCommand v
  | 0x07 => .spaceThreshold v
  | 0x08 => .push v
  | 0x1B => .scanConfig v
  | 0x20 => .blinkWrite .a v
  | 0x21 => .blinkWrite .b v
  | 0x23 => panelRequestCommand v
  | 0x28 => .supplyWrite v
  | 0x2B => .portDataWrite v
  | 0x2D => .irqStatusClear .lo v
  | 0x2E => .irqStatusClear .hi v
  | 0x2F => .irqEnable .lo v
  | 0x30 => .irqEnable .hi v
  | _ => .registerWrite offset v

/-- The command that an access is: a read of PORT_DATA or of FRAME_COUNT lo is one, and every other read
changes no register (R165) and is none; it is `hostRead` (Registers.lean). -/
def HostAccess.command : HostAccess → Option Instr
  | .read offset =>
    match offset.toNat with
    | 0x1E => some .frameCountLoRead
    | 0x2B => some .portDataRead
    | _ => none
  | .write offset v => some (writeCommand offset v)

/-- The bus write that a command is: the offset and the byte, for the commands that are host writes. -/
def busWrite : Instr → Option (BitVec 6 × Byte)
  | .push v => some (0x08#6, v)
  | .pause => some (0x06#6, 1#8)
  | .resume => some (0x06#6, 2#8)
  | .abort => some (0x06#6, 3#8)
  | .continueHalted => some (0x06#6, 4#8)
  | .flush => some (0x06#6, 5#8)
  | .engineReset => some (0x06#6, 6#8)
  | .pop => some (0x06#6, 7#8)
  | .unassignedEngineRequest v => some (0x06#6, v)
  | .powerOn => some (0x23#6, 1#8)
  | .showPicture => some (0x23#6, 2#8)
  | .blankPicture => some (0x23#6, 3#8)
  | .powerOff => some (0x23#6, 4#8)
  | .unassignedPanelRequest v => some (0x23#6, v)
  | .spaceThreshold v => some (0x07#6, v)
  | .scanConfig v => some (0x1B#6, v)
  | .blinkWrite .a v => some (0x20#6, v)
  | .blinkWrite .b v => some (0x21#6, v)
  | .supplyWrite v => some (0x28#6, v)
  | .irqStatusClear .lo v => some (0x2D#6, v)
  | .irqStatusClear .hi v => some (0x2E#6, v)
  | .irqEnable .lo v => some (0x2F#6, v)
  | .irqEnable .hi v => some (0x30#6, v)
  | .portDataWrite v => some (0x2B#6, v)
  | .registerWrite offset v => some (offset, v)
  | .copy | .stamp | .present | .zone | .wait | .mark | .portDataRead | .frameCountLoRead
  | .rowLatch | .dataPortGrant | .copySourceRead | .copyDestinationWrite | .stampSourceRead
  | .stampReadModifyWrite | .rowChange | .frameBoundary | .pairBoundary | .chargeExpiry
  | .dischargeExpiry | .sample _ | .deviceReset | .resetRelease | .powerOnReset | .supplyRise
  | .powerOnRelease => none

end Sys2Proof.Machine
end

