-- ==== Sys2Proof/Machine/Resets.lean ====
section
/-! DEFINITION. Device reset and power-on (spec/09_host_port.md, section 9.6, R14, R15, R176, R177). -/

namespace Sys2Proof.Machine

/-- Memory after a device reset with the supply held (R15): as it was, but for a byte whose write was cut,
which holds its value before the grant or the value the grant was writing (a free choice). -/
def memoryAfterCut (s : State) : List Host.Cell :=
  let cut (a : Nat) (v : Byte) : List Host.Cell :=
    if Config.cutWriteLands s.freeCount then memoryWrite s.memory a v else s.memory
  match s.arbiter.grant with
  | some (.port (.write a v)) => cut a v
  | some (.engine ⟨.copyWrite a v, _⟩) => cut a v
  | some (.engine ⟨.stampModify a mask bits operator, _⟩) =>
    cut a (operator.combine (byteAt s a) mask bits)
  | some (.port (.read _)) | some (.row _ _) | some (.engine ⟨.copyRead _ _, _⟩)
  | some (.engine ⟨.stampRead _, _⟩) | none => s.memory

/-- Every block at its device-reset value (R176), memory as given, and the reset inputs as given. The
supply input, the power-on count and the waiting commands are outside the part and stay. -/
def resetBlocks (memory : List Host.Cell) (inputs : ResetInputs) (s : State) : State :=
  { State.reset with
    memory := memory
    resetInputs := inputs
    supply := Supply.reset s.supply.millivolts
    epoch := s.epoch
    freeCount := s.freeCount + 1
    pending := s.pending }

/-- nRESET falls (R176): a device reset, in which the part stays while nRESET is low. -/
def takeDeviceReset (s : State) : State :=
  resetBlocks (memoryAfterCut s) { s.resetInputs with nResetLow := true } s

/-- nRESET rises (R176): the part leaves reset, unless it holds itself in power-on reset (R177), and the
supply monitor's sample timer starts from 0. -/
def releaseReset (s : State) : State :=
  if s.resetInputs.nResetLow then
    (s.withResetInputs { s.resetInputs with nResetLow := false }).withSupply
      { s.supply with timer := 0 }
  else s

/-- The supply is below 2.0 V (R177): device reset at once, and every byte of memory takes the arbitrary
value of the coming power-on (R14). -/
def takePowerOnReset (s : State) : State :=
  (resetBlocks [] { s.resetInputs with powerOn := .supplyLow } s).withEpoch (s.epoch + 1)

/-- The release interval of a power-on: 1024 reference ticks (R177). -/
def powerOnReleaseTicks : Nat := 1024

/-- The supply has first risen to 2.1 V (R177): the release interval starts. -/
def takeSupplyRise (s : State) : State :=
  if s.resetInputs.powerOn = .supplyLow then
    s.withResetInputs { s.resetInputs with powerOn := .releasing powerOnReleaseTicks }
  else s

/-- The release interval has ended (R177): the part leaves reset as at the rise of nRESET, unless nRESET is
low. -/
def takePowerOnRelease (s : State) : State :=
  match s.resetInputs.powerOn with
  | .releasing _ =>
    (s.withResetInputs { s.resetInputs with powerOn := .released }).withSupply
      { s.supply with timer := 0 }
  | .released | .supplyLow => s

/-- DEVICE_RESET (R176). -/
def execDeviceReset (s : State) : Answer := .next (takeDeviceReset s)

/-- RESET_RELEASE (R176). -/
def execResetRelease (s : State) : Answer := .next (releaseReset s)

/-- POWER_ON_RESET (R177). -/
def execPowerOnReset (s : State) : Answer := .next (takePowerOnReset s)

/-- SUPPLY_RISE (R177). -/
def execSupplyRise (s : State) : Answer := .next (takeSupplyRise s)

/-- POWER_ON_RELEASE (R177). -/
def execPowerOnRelease (s : State) : Answer := .next (takePowerOnRelease s)

end Sys2Proof.Machine
end

