-- ==== Sys2Proof/Machine/ScanEvents.lean ====
section
/-! DEFINITION. The events of the running scan (spec/07_scanning_and_composition.md, R121 to R123, R128,
R137, and the pair-boundary effects of R107, R150, R151, R155): ROW_CHANGE, FRAME_BOUNDARY and
PAIR_BOUNDARY. An event that cannot come about in the state (the scan is stopped, the row is not the one
whose end it is, the frame has the other polarity) changes nothing (assumption 2). How many ticks of the
common period have gone by is not asked: the reference ticks between two commands are the sender's
(assumption 5). -/

namespace Sys2Proof.Machine

/-- The scanner at a row: its position and tick count set, the dots of the last row no longer driven, and
the row's latch requested (R121, R126). -/
def startRow (polarity : Polarity) (row : Nat) (s : State) : State :=
  requestRow row ((s.withScanner { s.scanner with
    polarity := polarity, row := row, tick := 0 }).withCompositor
      { s.compositor with rowDots := none })

/-- The change from row r to row r + 1 (R121). -/
def changeRow (s : State) : State := startRow s.scanner.polarity (s.scanner.row + 1) s

/-- FRAME_COUNT rises by one, modulo 65536 (R121, R122, R124). -/
def countFrame (s : State) : State :=
  s.withScanner { s.scanner with frameCount := s.scanner.frameCount + 1#16 }

/-- A blink group at a pair boundary (R137): the staged setting becomes active, and the group restarts or
advances. -/
def Blink.atPairBoundary (b : Blink) : Blink :=
  if b.restart then ⟨b.staged, b.staged, .on, 0, false⟩
  else
    let count := match b.phase with
      | .on => b.staged.onCount
      | .off => b.staged.offCount
    if b.position + 1 = count then
      ⟨b.staged, b.staged, (match b.phase with | .on => .off | .off => .on), 0, false⟩
    else ⟨b.staged, b.staged, b.phase, b.position + 1, false⟩

/-- The staged settings become active (R128, R137): the scan configuration, the zone table and the blink
settings. -/
def activateSettings (s : State) : State :=
  (s.withScanner { s.scanner with active := s.scanner.staged }).withCompositor { s.compositor with
    activeZones := s.compositor.stagedZones
    blinkA := s.compositor.blinkA.atPairBoundary
    blinkB := s.compositor.blinkB.atPairBoundary }

/-- The actual contrast one level nearer the target (R155). -/
def stepContrast (actual target : BitVec 5) : BitVec 5 :=
  if actual.toNat < target.toNat then actual + 1#5
  else if target.toNat < actual.toNat then actual - 1#5
  else actual

/-- The panel's part of a pair boundary while the scan goes on (R150, R155): a pending SHOW or BLANK takes
effect, and the actual contrast steps toward its target. -/
def panelAtPairBoundary (s : State) : State :=
  let s1 := s.withPanel { s.panel with
    pending := .none
    contrastActual := stepContrast s.panel.contrastActual s.panel.contrastTarget }
  match s.panel.state, s.panel.pending with
  | .blanked, .show => enterPanel .showing s1
  | .showing, .blank => enterPanel .blanked s1
  | _, _ => s1

/-- A pair boundary (R122): FRAME_COUNT rises, PAIR is latched, the staged settings become active and a
pending page is switched. In STOPPING the panel enters DISCHARGING and the scan stops in the same event
(R123, R151); otherwise the panel takes its part, the engine takes its part after the switch, and row 0
of the positive frame begins. -/
def takePairBoundary (s : State) : State :=
  let switched := s.pages.pending.isSome
  let s1 := switchPage (activateSettings (latchPair (countFrame s)))
  if s.panel.state = .stopping then
    engineTakesScanEvent true true switched (stopDrive (enterDischarging s1))
  else
    startRow .positive 0 (engineTakesScanEvent true false switched (panelAtPairBoundary s1))

/-- The common period of a row below N − 1 ends (R121). -/
def rowEnds (s : State) : State :=
  if scanRunning s ∧ s.scanner.row + 1 < activeCommons s then changeRow s else s

/-- A positive frame ends with the common period of row N − 1 (R121). -/
def positiveFrameEnds (s : State) : State :=
  if scanRunning s ∧ s.scanner.polarity = .positive ∧ s.scanner.row + 1 = activeCommons s then
    startRow .negative 0 (countFrame s)
  else s

/-- A negative frame ends with the common period of row N − 1 (R121, R122). -/
def negativeFrameEnds (s : State) : State :=
  if scanRunning s ∧ s.scanner.polarity = .negative ∧ s.scanner.row + 1 = activeCommons s then
    takePairBoundary s
  else s

/-- ROW_CHANGE (R121). -/
def execRowChange (s : State) : Answer := .next (onEvent rowEnds s)

/-- FRAME_BOUNDARY (R121). -/
def execFrameBoundary (s : State) : Answer := .next (onEvent positiveFrameEnds s)

/-- PAIR_BOUNDARY (R122). -/
def execPairBoundary (s : State) : Answer := .next (onEvent negativeFrameEnds s)

end Sys2Proof.Machine
end

