-- ==== Sys2Proof/Machine/Timers.lean ====
section
/-! DEFINITION. The timers that expire: the charge timer (R149), the discharge timer (R152) and the sample
timer (R157, R158). A command says that the timer has run out; in a state in which it does not run,
nothing expires (R149: "the expiry does not then happen", assumption 2). -/

namespace Sys2Proof.Machine

/-- The end of CHARGING (R149, R120): the panel enters BLANKED, the scan starts in a positive frame at row
0 without a boundary, and show-after-charge becomes a pending SHOW. -/
def endCharging (s : State) : State :=
  startRow .positive 0 (enterPanel .blanked (s.withPanel { s.panel with
    chargeTimer := none
    showAfterCharge := false
    pending := if s.panel.showAfterCharge then .show else .none }))

/-- The end of DISCHARGING (R152): the panel enters OFF. -/
def endDischarging (s : State) : State :=
  enterPanel .off (s.withPanel { s.panel with dischargeTimer := none })

/-- The supply state after a sample (R157): two samples in a row of one level change it to that level. -/
def supplyAfter (state : SupplyState) (history : Option SampleLevel) (sample : SampleLevel) :
    SupplyState :=
  match history, sample with
  | some .low, .low => .low
  | some .good, .good => .ok
  | _, _ => state

/-- The supply monitor takes a sample (R157): the sample becomes the history, and the timer counts again
from 0. -/
def recordSample (millivolts : Nat) (s : State) : State :=
  let level := sampleLevelOf millivolts
  s.withSupply { s.supply with
    state := supplyAfter s.supply.state s.supply.history level
    history := some level
    timer := 0
    millivolts := millivolts }

/-- Whether the panel is one that a confirmed LOW discharges (R158). -/
def PanelState.powered : PanelState → Bool
  | .charging | .blanked | .showing | .stopping => true
  | .off | .discharging => false

/-- A sample (R157 to R159): a change from OK to LOW latches SUPPLY and, in CHARGING, BLANKED, SHOWING and
STOPPING, makes the emergency discharge in the same event. -/
def takeSample (millivolts : Nat) (s : State) : State :=
  let s1 := recordSample millivolts s
  if s.supply.state = .ok ∧ s1.supply.state = .low then
    if s.panel.state.powered then emergencyDischarge (latchSupply s1) else latchSupply s1
  else s1

/-- The charge timer runs out (R149). -/
def chargeTimerEnds (s : State) : State := if s.panel.state = .charging then endCharging s else s

/-- The discharge timer runs out (R152). -/
def dischargeTimerEnds (s : State) : State :=
  if s.panel.state = .discharging then endDischarging s else s

/-- The sample timer runs out with the supply at `millivolts` (R157). It runs while the monitor is
enabled and the part is out of reset (R156, R176). A supply below 2.0 V is no sample but the start of a
power-on (R177). -/
def sampleTimerEnds (millivolts : Nat) (s : State) : State :=
  if millivolts < 2000 then takePowerOnReset s
  else if s.supply.enabled ∧ ¬inReset s then takeSample millivolts s
  else s

/-- CHARGE_EXPIRY (R149). -/
def execChargeExpiry (s : State) : Answer := .next (onEvent chargeTimerEnds s)

/-- DISCHARGE_EXPIRY (R152). -/
def execDischargeExpiry (s : State) : Answer := .next (onEvent dischargeTimerEnds s)

/-- SAMPLE (R157). -/
def execSample (millivolts : Nat) (s : State) : Answer :=
  .next (onEvent (sampleTimerEnds millivolts) s)

end Sys2Proof.Machine
end

