-- ==== Sys2Proof/Machine/Clock.lean ====
section
/-! DEFINITION. What the part does by itself while no command waits (assumption 4). One event comes due at
a time and joins the queue of commands as the row of the table that it is: the end of the grant in
progress, then the take of the head entry by an IDLE engine, and with neither due one reference tick
passes, in which the timers that run count and those that run out put their event in the queue. -/

namespace Sys2Proof.Machine

/-- The command that ends a grant. -/
def Grant.ending : Grant → Instr
  | .row _ _ => .rowLatch
  | .port _ => .dataPortGrant
  | .engine e =>
    match e.access with
    | .copyRead _ _ => .copySourceRead
    | .copyWrite _ _ => .copyDestinationWrite
    | .stampRead _ => .stampSourceRead
    | .stampModify _ _ _ _ => .stampReadModifyWrite

/-- The command that takes an entry. -/
def Kind.takeCommand : Kind → Instr
  | .copy => .copy | .stamp => .stamp | .present => .present | .zone => .zone | .wait => .wait
  | .mark => .mark

/-- The scanner at a reference tick (R121): the tick count rises, or its common period has ended and the
event that ends it is due. -/
def tickScan (s : State) : State × List Instr :=
  if scanRunning s then
    if s.scanner.tick + 1 < s.scanner.active.period then
      (s.withScanner { s.scanner with tick := s.scanner.tick + 1 }, [])
    else if s.scanner.row + 1 < activeCommons s then (s, [.rowChange])
    else if s.scanner.polarity = .positive then (s, [.frameBoundary])
    else (s, [.pairBoundary])
  else (s, [])

/-- A timer that counts down: its next value, and whether it has run out. -/
def countDown (ticks : Nat) : Nat × Bool := (ticks - 1, decide (ticks ≤ 1))

/-- The panel's timers at a reference tick (R149, R152). -/
def tickPanel (s : State) : State × List Instr :=
  match s.panel.chargeTimer with
  | some n =>
    (s.withPanel { s.panel with chargeTimer := some (countDown n).1 },
      if (countDown n).2 then [.chargeExpiry] else [])
  | none =>
    match s.panel.dischargeTimer with
    | some n =>
      (s.withPanel { s.panel with dischargeTimer := some (countDown n).1 },
        if (countDown n).2 then [.dischargeExpiry] else [])
    | none => (s, [])

/-- The sample timer at a reference tick (R157): it expires every 256 ticks while the monitor is enabled.
The sample finds the supply input at the level the last SAMPLE command left (assumption 9). -/
def tickSupply (s : State) : State × List Instr :=
  if s.supply.enabled then
    if s.supply.timer + 1 < 256 then
      (s.withSupply { s.supply with timer := s.supply.timer + 1 }, [])
    else (s, [.sample s.supply.millivolts])
  else (s, [])

/-- Two lists of events that come due at one tick, in either order: a free choice (assumption 6). -/
def eitherOrder (s : State) (events samples : List Instr) : State :=
  if events.isEmpty || samples.isEmpty then s.withPending (events ++ samples)
  else
    (s.withPending
      (if Config.sampleFirst s.freeCount then samples ++ events else events ++ samples)).withFreeCount
        (s.freeCount + 1)

/-- One reference tick of the running part. -/
def tick (s : State) : State :=
  let scan := tickScan s
  let panel := tickPanel scan.1
  let supply := tickSupply panel.1
  eitherOrder supply.1 (scan.2 ++ panel.2) supply.2

/-- One reference tick of a part in reset (R176, R177): no timer runs but the power-on release. -/
def tickReset (s : State) : State :=
  match s.resetInputs.powerOn with
  | .releasing n =>
    (s.withResetInputs { s.resetInputs with powerOn := .releasing (countDown n).1 }).withPending
      (if (countDown n).2 then [.powerOnRelease] else [])
  | .released | .supplyLow => s

/-- What the part does by itself while no command waits. -/
def idleStep (s : State) : State :=
  if inReset s then tickReset s
  else
    match s.arbiter.grant with
    | some g => s.withPending [g.ending]
    | none =>
      match s.engine.state, s.queue with
      | .idle, e :: _ => s.withPending [e.kind.takeCommand]
      | _, _ => tick s

end Sys2Proof.Machine
end

