-- ==== Sys2Proof/Machine/Dispatch.lean ====
section
/-! DEFINITION. The dispatch: one arm for each command of the table, in the table's order. -/

namespace Sys2Proof.Machine

def exec (i : Instr) (s : State) : Host.Outcome State Fault Refusal :=
  match i with
  | .push kind => Sys2Proof.Machine.execPush kind s
  | .copy => Sys2Proof.Machine.execCopy s
  | .stamp => Sys2Proof.Machine.execStamp s
  | .present => Sys2Proof.Machine.execPresent s
  | .zone => Sys2Proof.Machine.execZone s
  | .wait => Sys2Proof.Machine.execWait s
  | .mark => Sys2Proof.Machine.execMark s
  | .pause => Sys2Proof.Machine.execPause s
  | .resume => Sys2Proof.Machine.execResume s
  | .abort => Sys2Proof.Machine.execAbort s
  | .continueHalted => Sys2Proof.Machine.execContinue s
  | .flush => Sys2Proof.Machine.execFlush s
  | .engineReset => Sys2Proof.Machine.execEngineReset s
  | .pop => Sys2Proof.Machine.execPop s
  | .unassignedEngineRequest code => Sys2Proof.Machine.execUnassignedEngineRequest code s
  | .powerOn => Sys2Proof.Machine.execPowerOn s
  | .showPicture => Sys2Proof.Machine.execShow s
  | .blankPicture => Sys2Proof.Machine.execBlank s
  | .powerOff => Sys2Proof.Machine.execPowerOff s
  | .unassignedPanelRequest code => Sys2Proof.Machine.execUnassignedPanelRequest code s
  | .spaceThreshold value => Sys2Proof.Machine.execSpaceThreshold value s
  | .scanConfig value => Sys2Proof.Machine.execScanConfig value s
  | .blinkWrite group value => Sys2Proof.Machine.execBlinkWrite group value s
  | .supplyWrite value => Sys2Proof.Machine.execSupplyWrite value s
  | .irqStatusClear byte value => Sys2Proof.Machine.execIrqStatusClear byte value s
  | .irqEnable byte value => Sys2Proof.Machine.execIrqEnable byte value s
  | .portDataRead => Sys2Proof.Machine.execPortDataRead s
  | .portDataWrite value => Sys2Proof.Machine.execPortDataWrite value s
  | .frameCountLoRead => Sys2Proof.Machine.execFrameCountLoRead s
  | .registerWrite offset value => Sys2Proof.Machine.execRegisterWrite offset value s
  | .rowLatch => Sys2Proof.Machine.execRowLatch s
  | .dataPortGrant => Sys2Proof.Machine.execDataPortGrant s
  | .copySourceRead => Sys2Proof.Machine.execCopySourceRead s
  | .copyDestinationWrite => Sys2Proof.Machine.execCopyDestinationWrite s
  | .stampSourceRead => Sys2Proof.Machine.execStampSourceRead s
  | .stampReadModifyWrite => Sys2Proof.Machine.execStampReadModifyWrite s
  | .rowChange => Sys2Proof.Machine.execRowChange s
  | .frameBoundary => Sys2Proof.Machine.execFrameBoundary s
  | .pairBoundary => Sys2Proof.Machine.execPairBoundary s
  | .chargeExpiry => Sys2Proof.Machine.execChargeExpiry s
  | .dischargeExpiry => Sys2Proof.Machine.execDischargeExpiry s
  | .sample millivolts => Sys2Proof.Machine.execSample millivolts s
  | .deviceReset => Sys2Proof.Machine.execDeviceReset s
  | .resetRelease => Sys2Proof.Machine.execResetRelease s
  | .powerOnReset => Sys2Proof.Machine.execPowerOnReset s
  | .supplyRise => Sys2Proof.Machine.execSupplyRise s
  | .powerOnRelease => Sys2Proof.Machine.execPowerOnRelease s

end Sys2Proof.Machine
end

