-- ==== Sys2Proof/Machine/Outputs.lean ====
section
/-! DEFINITION. What the part drives on its pins in each panel state (R127, R144, R176): the common
lines, the segment lines, the bias supply, and the data lines and nIRQ of the host bus. -/

namespace Sys2Proof.Machine

/-- The drive of a common line: grounded; held unselected in CHARGING, when no frame gives a polarity; or
scanned in the polarity of the frame (R127, R144). -/
inductive CommonDrive where
  | grounded
  | heldUnselected
  | unselected (polarity : Polarity)
  | selected (polarity : Polarity)
deriving DecidableEq, Repr

/-- The drive of a segment line: grounded; held at the level of a dot driven off in CHARGING, when no frame
gives a polarity; or a dot driven off or on in the polarity of the frame (R127, R144). -/
inductive SegmentDrive where
  | grounded
  | heldOff
  | dotOff (polarity : Polarity)
  | dotOn (polarity : Polarity)
deriving DecidableEq, Repr

/-- The bias supply (R144): off; off with its charge being drained; charging toward a level; or on at a
level. -/
inductive BiasDrive where
  | off
  | draining
  | charging (level : BitVec 5)
  | on (level : BitVec 5)
deriving DecidableEq, Repr

/-- Common line COMr (R127, R144): grounded in OFF and DISCHARGING, held unselected in CHARGING, and while
the scan runs selected in the common period of row `r`, in the polarity of the frame. -/
def commonDrive (s : State) (r : Nat) : CommonDrive :=
  match s.panel.state with
  | .off | .discharging => .grounded
  | .charging => .heldUnselected
  | .blanked | .showing | .stopping =>
    if r = s.scanner.row then .selected s.scanner.polarity else .unselected s.scanner.polarity

/-- Segment line SEGc (R127, R144): while the scan runs a dot is driven in the polarity of the frame, and
on only in SHOWING, with the value fixed at the latch of the row; before that latch it is driven off
(assumption 14). -/
def segmentDrive (s : State) (c : Nat) : SegmentDrive :=
  match s.panel.state with
  | .off | .discharging => .grounded
  | .charging => .heldOff
  | .blanked | .stopping => .dotOff s.scanner.polarity
  | .showing =>
    match s.compositor.rowDots with
    | some dots =>
      if dots.getLsbD c then .dotOn s.scanner.polarity else .dotOff s.scanner.polarity
    | none => .dotOff s.scanner.polarity

/-- The bias supply (R144). -/
def biasDrive (s : State) : BiasDrive :=
  match s.panel.state with
  | .off => .off
  | .discharging => .draining
  | .charging => .charging s.panel.contrastActual
  | .blanked | .showing | .stopping => .on s.panel.contrastActual

/-- nIRQ is driven low exactly while it is asserted, and is released while the part is in reset (R175). -/
def nIrqDrivenLow (s : State) : Bool := !inReset s && nIrqAsserted s

end Sys2Proof.Machine
end

