-- ==== Sys2Proof/Machine/Registers.lean ====
section
/-! DEFINITION. What a read of each register of the window returns (spec/10_register_reference.md, R163,
R179), and the accesses of the host bus as events (R161, R162). Only two reads change a register or
memory, PORT_DATA and FRAME_COUNT lo, and they are commands (HostPort.lean); every other read is no
command of the table and is `hostRead`. -/

namespace Sys2Proof.Machine

/-- The code of an engine state (Table 3-1). -/
def EngineState.code : EngineState → Byte
  | .idle => 0#8 | .running => 1#8 | .held => 2#8 | .waiting => 3#8 | .stalled => 4#8
  | .faultPending => 5#8 | .halted => 6#8 | .paused => 7#8

/-- The code of a hold reason (Table 10-2). -/
def HoldReason.code : HoldReason → Byte
  | .none => 0#8 | .page => 1#8 | .present => 2#8

/-- The code of a panel state (Table 8-1). -/
def PanelState.code : PanelState → Byte
  | .off => 0#8 | .charging => 1#8 | .blanked => 2#8 | .showing => 3#8 | .stopping => 4#8
  | .discharging => 5#8

/-- The code of a pending panel request (Table 10-3). -/
def PanelPending.code : PanelPending → Byte
  | .none => 0#8 | .show => 1#8 | .blank => 2#8

/-- ENGINE_STATE (R37, Table 10-2). -/
def readEngineState (s : State) : Byte :=
  s.engine.state.code ||| bitAt 3 s.engine.pauseRequested ||| bitAt 4 s.engine.current.isSome |||
    s.engine.holdReason.code <<< 5

/-- CURRENT_TAG: the tag of the current command, and 00h with none current (R37). -/
def readCurrentTag (s : State) : Byte :=
  match s.engine.current with
  | some c => c.entry.tag
  | none => 0#8

/-- A field of the head record, and 00h while the ring is empty (R93). -/
def readHead (s : State) (field : Record → Byte) : Byte :=
  match s.ring with
  | r :: _ => field r
  | [] => 0#8

/-- CR_INFO (Table 10-2). -/
def Record.info (r : Record) : Byte := bitAt 0 r.clipped ||| bitAt 1 r.held

/-- PENDING_PAGE: the valid flag and the page, 00h while nothing is pending (R102). -/
def readPendingPage (s : State) : Byte :=
  match s.pages.pending with
  | some p => bitAt 7 true ||| BitVec.ofNat 8 p.val
  | none => 0#8

/-- SCAN_CONFIG or SCAN_ACTIVE (Table 10-3). -/
def ScanConfig.toByte (c : ScanConfig) : Byte :=
  c.commonsCode.setWidth 8 ||| c.dividerCode.setWidth 8 <<< 2 ||| bitAt 4 c.reverse

/-- SCAN_POSITION: 00h while the scan is stopped (R125). -/
def readScanPosition (s : State) : Byte :=
  if scanRunning s then
    BitVec.ofNat 8 s.scanner.row ||| bitAt 5 (s.scanner.polarity == .negative) ||| bitAt 6 true
  else 0#8

/-- BLINK_A or BLINK_B: the staged setting (R138). -/
def BlinkSetting.toByte (b : BlinkSetting) : Byte :=
  b.onLessOne.setWidth 8 ||| b.offLessOne.setWidth 8 <<< 4

/-- BLINK_PHASE (R139). -/
def readBlinkPhase (s : State) : Byte :=
  bitAt 0 (s.compositor.blinkA.phase == .off) ||| bitAt 1 (s.compositor.blinkB.phase == .off)

/-- PANEL_STATE (R143, Table 10-3). -/
def readPanelState (s : State) : Byte :=
  s.panel.state.code ||| s.panel.pending.code <<< 3 ||| bitAt 5 s.panel.showAfterCharge

/-- SUPPLY (R156, Table 10-3). -/
def readSupply (s : State) : Byte :=
  bitAt 0 s.supply.enabled ||| bitAt 1 (s.supply.state == .low)

/-- The zone entry that ZONE_SELECT selects (R134). -/
def selectedZone (s : State) : ZoneEntry :=
  if s.port.zoneActive then s.compositor.activeZones.get s.port.zoneIndex
  else s.compositor.stagedZones.get s.port.zoneIndex

/-- The code of a zone effect (Table 10-6). -/
def ZoneEffect.code : ZoneEffect → Byte
  | .invert => 0#8 | .blank => 1#8 | .blinkOff => 2#8 | .blinkInvert => 3#8

/-- The effect byte of a zone entry (Table 10-6). -/
def ZoneEntry.effectByte (z : ZoneEntry) : Byte :=
  bitAt 0 z.enable ||| z.effect.code <<< 1 ||| bitAt 3 (z.group == .b)

/-- The value a read of the register at `offset` returns (Table 10-1). A request register and an
unassigned offset read 00h (R163). PORT_DATA is not a register with a value of its own; its read is the
command PORT_DATA_READ. -/
def readRegister (s : State) (offset : BitVec 6) : Byte :=
  match offset.toNat with
  | 0x00 => 0xC4#8
  | 0x01 => 0x01#8
  | 0x02 => readEngineState s
  | 0x03 => BitVec.ofNat 8 s.queue.length
  | 0x04 => BitVec.ofNat 8 s.ring.length
  | 0x05 => readCurrentTag s
  | 0x07 => s.spaceThreshold
  | 0x09 => s.staging.tag
  | 0x0A => s.staging.flags.setWidth 8
  | 0x0B => loByte s.staging.a
  | 0x0C => hiByte s.staging.a
  | 0x0D => loByte s.staging.b
  | 0x0E => hiByte s.staging.b
  | 0x0F => loByte s.staging.c
  | 0x10 => hiByte s.staging.c
  | 0x11 => s.staging.d
  | 0x12 => s.staging.e
  | 0x13 => readHead s (fun r => r.tag)
  | 0x14 => readHead s (fun r => r.kind.code)
  | 0x15 => readHead s (fun r => r.status.code)
  | 0x16 => readHead s (fun r => loByte (BitVec.ofNat 16 r.progress))
  | 0x17 => readHead s (fun r => hiByte (BitVec.ofNat 16 r.progress))
  | 0x18 => readHead s Record.info
  | 0x19 => BitVec.ofNat 8 s.pages.shown.val
  | 0x1A => readPendingPage s
  | 0x1B => s.scanner.staged.toByte
  | 0x1C => s.scanner.active.toByte
  | 0x1D => readScanPosition s
  | 0x1E => loByte s.scanner.frameCount
  | 0x1F => s.port.frameHold
  | 0x20 => s.compositor.blinkA.staged.toByte
  | 0x21 => s.compositor.blinkB.staged.toByte
  | 0x22 => readBlinkPhase s
  | 0x24 => readPanelState s
  | 0x25 => s.panel.chargeTime.setWidth 8
  | 0x26 => s.panel.contrastTarget.setWidth 8
  | 0x27 => s.panel.contrastActual.setWidth 8
  | 0x28 => readSupply s
  | 0x29 => loByte s.port.pointer
  | 0x2A => hiByte s.port.pointer
  | 0x2C => bitAt 0 (s.port.step == .eight)
  | 0x2D => irqStatusLo s
  | 0x2E => irqStatusHi s
  | 0x2F => s.irq.enableLo
  | 0x30 => s.irq.enableHi.setWidth 8
  | 0x31 => BitVec.ofNat 8 s.port.zoneIndex.val ||| bitAt 3 s.port.zoneActive
  | 0x32 => (selectedZone s).firstColumn.setWidth 8
  | 0x33 => (selectedZone s).lastColumn.setWidth 8
  | 0x34 => (selectedZone s).firstRow.setWidth 8
  | 0x35 => (selectedZone s).lastRow.setWidth 8
  | 0x36 => (selectedZone s).effectByte
  | _ => 0#8

/-- A read by the host, as the event it is (R162): the state after it and the value returned. It is taken
whole, in the state that an access meets: what the access before it left at the arbiter has ended, and
the takes that are due have been taken (R51, R162, R169). FRAME_COUNT lo and PORT_DATA do what their commands
do, PORT_DATA returning the byte of its grant in the same cycle (R168); every other read changes nothing
more (R165). No cycle is taken in reset (R161). -/
def hostRead (offset : BitVec 6) (s : State) : State × Option Byte :=
  if inReset s then (s, none)
  else
    let met := beforeAccess s
    match offset.toNat with
    | 0x1E => (readFrameCountLo met, some (readRegister met offset))
    | 0x2B =>
      let t := settleAccess settleBound (readPortData met)
      (t, t.port.readValue)
    | _ => (met, some (readRegister met offset))

/-- A write by the host, as the event it is (R162, R163). -/
def hostWrite (offset : BitVec 6) (v : Byte) (s : State) : State := onBus (writeRegister offset v) s

/-- A cycle of the host bus: the state after it, and the value returned where it is a read (R161). -/
def takeCycle (cycle : BusCycle) (s : State) : State × Option Byte :=
  match cycle.access with
  | some (.read offset) => hostRead offset s
  | some (.write offset v) => (hostWrite offset v s, none)
  | none => (s, none)

end Sys2Proof.Machine
end

