-- ==== Sys2Proof/WellFormed.lean ====
section
/-! DEFINITION. Which terms of `Instr` are commands of the table: a code that a row calls unassigned
is unassigned, a REGISTER_WRITE names a register that no other row of the table writes, and a SAMPLE
carries a supply at which the part runs. -/

namespace Sys2Proof

/-- The registers of the window whose write is a row of its own in spec/opcode_table.json (R163):
ENGINE_REQUEST, SPACE_THRESHOLD, CMD_KIND, SCAN_CONFIG, BLINK_A, BLINK_B, PANEL_REQUEST, SUPPLY,
PORT_DATA, IRQ_STATUS and IRQ_ENABLE, at the offsets of Table 10-1. -/
def ownRowOffsets : List (BitVec 6) :=
  [0x06#6, 0x07#6, 0x08#6, 0x1B#6, 0x20#6, 0x21#6, 0x23#6, 0x28#6, 0x2B#6, 0x2D#6, 0x2E#6, 0x2F#6,
    0x30#6]

/-- A term is a command of the table. -/
def Instr.wellFormed : Instr → Bool
  | .unassignedEngineRequest code => code.toNat == 0 || 8 ≤ code.toNat
  | .unassignedPanelRequest code => code.toNat == 0 || 5 ≤ code.toNat
  | .registerWrite offset _ => !(ownRowOffsets.contains offset)
  | .sample millivolts => 2000 ≤ millivolts
  | .push _ | .copy | .stamp | .present | .zone | .wait | .mark | .pause | .resume | .abort
  | .continueHalted | .flush | .engineReset | .pop | .powerOn | .showPicture | .blankPicture
  | .powerOff | .spaceThreshold _ | .scanConfig _ | .blinkWrite _ _ | .supplyWrite _
  | .irqStatusClear _ _ | .irqEnable _ _ | .portDataRead | .portDataWrite _ | .frameCountLoRead
  | .rowLatch | .dataPortGrant | .copySourceRead | .copyDestinationWrite | .stampSourceRead
  | .stampReadModifyWrite | .rowChange | .frameBoundary | .pairBoundary | .chargeExpiry
  | .dischargeExpiry | .deviceReset | .resetRelease | .powerOnReset | .supplyRise
  | .powerOnRelease => true

end Sys2Proof
end

