-- ==== Sys2Proof/Safety.lean ====
section
/-! DEFINITION. The terms that claims use: the states in which a command meets nothing left over from the
one before, the endings of a command as R50 and R51 give them, and the invariants that every step
keeps. -/

namespace Sys2Proof.Machine

/-! ## States in which a command meets nothing left over -/

/-- No take is due: the engine is in one of its eight states, and an event of the part meets the state as
it stands (R38). -/
def Settled (s : State) : Prop := s.engine.takeDue = false

/-- An access of the host meets the state as it stands: the part is out of reset, no take is due, and no
data-port grant and no access of a dropped command is outstanding (R161, R162, R169). -/
def Ready (s : State) : Prop :=
  inReset s = false ∧ s.engine.takeDue = false ∧ accessOutstanding s = false

/-- The commands that are accesses of the host. -/
def isHostAccess (c : Instr) : Bool :=
  (busWrite c).isSome || c == .portDataRead || c == .frameCountLoRead

/-- The takes: the six commands by which the engine takes an entry (R38). -/
def isTake : Instr → Bool
  | .copy | .stamp | .present | .zone | .wait | .mark => true
  | _ => false

/-- The events of the reset inputs (R176, R177). -/
def isResetEvent : Instr → Bool
  | .deviceReset | .resetRelease | .powerOnReset | .supplyRise | .powerOnRelease => true
  | _ => false

/-! ## What a request does at the arbiter, where none waits while memory is free (R9) -/

/-- The scanner asks for row `row` while page `shown` is shown: granted at once while no grant is in
progress, and otherwise waiting (R9, R10). A row request still waiting is replaced (assumption 11). -/
def rowAsks (row : Nat) (shown : Fin 4) (b : Arbiter) : Arbiter :=
  match b.grant with
  | none => { b with grant := some (.row ⟨row, false⟩ shown), rowRequest := none }
  | some _ => { b with rowRequest := some ⟨row, false⟩ }

/-- The host port asks for a data-port access: granted at once while no grant is in progress, and
otherwise waiting (R9, R11). -/
def portAsks (access : PortAccess) (b : Arbiter) : Arbiter :=
  match b.grant with
  | none => { b with grant := some (.port access), engineOwed := false }
  | some _ => { b with portRequest := some access }

/-- The engine asks for `access` of its current command, unless an access of a command dropped by an
engine reset is still waiting or in progress (R12, R16, assumption 15): granted at once while no grant is
in progress, and otherwise waiting (R9). -/
def engineAsks (access : EngineAccess) (b : Arbiter) : Arbiter :=
  match b.engineRequest, b.grant with
  | some _, _ => b
  | none, some (.engine _) => b
  | none, none => { b with grant := some (.engine ⟨access, false⟩), engineOwed := false }
  | none, some _ => { b with engineRequest := some ⟨access, false⟩ }

/-! ## Endings -/

/-- The engine after an ending whose record, if due, has been written (R51). Where R51 lets it take the
head entry at once, the model leaves it in IDLE with the take due, a step of its own (assumption 3). -/
def engineGoesOn (s : State) : Engine where
  state := if s.engine.pauseRequested then .paused else .idle
  current := none
  holdReason := .none
  pauseRequested := false
  waitingRecord := none
  takeDue := !s.engine.pauseRequested && !s.queue.isEmpty

/-- A normal ending (R50): without a record due the engine goes on; a due record joins the ring at its
tail, or waits in STALLED while the ring holds 8. -/
def endsNormally (due : Bool) (r : Record) (s : State) : State :=
  if due then
    if s.ring.length < 8 then { s with ring := s.ring ++ [r], engine := engineGoesOn s }
    else { s with engine := { s.engine with
      state := .stalled, holdReason := .none, waitingRecord := some r } }
  else { s with engine := engineGoesOn s }

/-- A fault (R41): its record joins the ring and the engine is HALTED with nothing current, or the record
waits in FAULT_PENDING while the ring holds 8. -/
def endsInFault (r : Record) (s : State) : State :=
  if s.ring.length < 8 then
    { s with
      ring := s.ring ++ [r]
      engine := { s.engine with
        state := .halted, current := none, holdReason := .none, waitingRecord := none } }
  else { s with engine := { s.engine with
    state := .faultPending, holdReason := .none, waitingRecord := some r } }

/-- The hold rule lets a COPY or STAMP begin (R43): with a present pending it touches neither the pending
page nor the shown page; or with none pending the scan is stopped or it does not touch the shown page. -/
def HoldRuleAllows (e : Entry) (s : State) : Prop :=
  match s.pages.pending with
  | some q => e.touches q = false ∧ e.touches s.pages.shown = false
  | none => scanRunning s = false ∨ e.touches s.pages.shown = false

/-- A COPY or STAMP whose checks have passed begins at its take (R40, R48): it is LIVE, bit 1 of its flags
(Table 10-6), or the hold rule lets it. -/
def MayBegin (e : Entry) (s : State) : Prop := e.flags.getLsbD 1 = true ∨ HoldRuleAllows e s

/-- `s` as the take of `e` leaves it before the checks, with `rest` behind it in the queue (R38); no take is
due any more (assumption 3). -/
def taken (e : Entry) (rest : List Entry) (s : State) : State :=
  { s with
    queue := rest
    engine := { s.engine with current := some (Current.ofEntry e), takeDue := false } }

/-- `s` with REFUSED latched and nothing else changed (R59, R145, R32). -/
def withRefused (s : State) : State := { s with irq := { s.irq with refused := true } }

/-- The first access of a COPY or STAMP that begins (R68, R79). -/
def firstAccess (e : Entry) : EngineAccess :=
  match e.kind with
  | .copy => .copyRead e.a.toNat e.b.toNat
  | _ => .stampRead e.a.toNat

/-- The engine with its current command `c` begun (R40, R74). -/
def engineBegins (c : Current) (g : Engine) : Engine :=
  { g with
    state := .running
    holdReason := .none
    current := some { c with clipped := c.entry.kind == .stamp && c.entry.isClipped } }

/-- The request that the engine has ready when it has no access at the arbiter: the next access of a
running command (R12, R49). It is raised as soon as the last has ended (assumption 34). -/
def nextRequest (s : State) : Option EngineRequest :=
  if s.engine.state = .running then
    (s.engine.current.bind Current.nextAccess).map (fun a => ⟨a, false⟩)
  else none

/-- An event that stops a running scan (R123): the pair boundary of STOPPING, or the sample that confirms
LOW. -/
def StopsTheScan (event : Instr) (s : State) : Prop :=
  scanRunning s = true ∧
    ((event = .pairBoundary ∧ s.panel.state = .stopping ∧ s.scanner.polarity = .negative ∧
        s.scanner.row + 1 = activeCommons s) ∨
      ∃ millivolts, event = .sample millivolts ∧ 2000 ≤ millivolts ∧
        sampleLevelOf millivolts = .low ∧ inReset s = false ∧ s.supply.enabled = true ∧
        s.supply.state = .ok ∧ s.supply.history = some .low)

/-! ## Invariants -/

/-- Memory keeps its canonical form. -/
def MemoryInv (s : State) : Prop := Memory.wf s.memory = true

/-- The queue holds at most 16 entries (R29), the ring at most 8 records (R91), and SPACE_THRESHOLD is 1
to 16 (R32). -/
def BoundsInv (s : State) : Prop :=
  s.queue.length ≤ 16 ∧ s.ring.length ≤ 8 ∧
    1 ≤ s.spaceThreshold.toNat ∧ s.spaceThreshold.toNat ≤ 16

/-- A record waits exactly in STALLED and FAULT_PENDING (R36), and only while the ring holds 8 records
(R95). -/
def WaitingRecordInv (s : State) : Prop :=
  (s.engine.waitingRecord.isSome = true ↔
    s.engine.state = .stalled ∨ s.engine.state = .faultPending) ∧
  (s.engine.waitingRecord.isSome = true → s.ring.length = 8) ∧
  s.ring.length ≤ 8

/-- Which command can be current in an engine state (Table 3-1, R36, R40): none in IDLE and HALTED; a
COPY or STAMP in RUNNING; a WAIT or PRESENT in WAITING; in HELD and PAUSED a held COPY or STAMP for
reason PAGE and a held PRESENT for reason PRESENT. -/
def EngineInv (s : State) : Prop :=
  (match s.engine.state, s.engine.current with
    | .idle, none | .halted, none => s.engine.holdReason = .none
    | .paused, none => s.engine.holdReason = .none
    | .running, some c =>
      (c.entry.kind = .copy ∨ c.entry.kind = .stamp) ∧ s.engine.holdReason = .none
    | .waiting, some c =>
      (c.entry.kind = .wait ∨ c.entry.kind = .present) ∧ s.engine.holdReason = .none
    | .stalled, some _ | .faultPending, some _ => s.engine.holdReason = .none
    | .held, some c | .paused, some c =>
      (c.heldOnce = true ∧
        ((s.engine.holdReason = .page ∧ (c.entry.kind = .copy ∨ c.entry.kind = .stamp)) ∨
          (s.engine.holdReason = .present ∧ c.entry.kind = .present)))
    | _, _ => False) ∧
  (s.engine.pauseRequested = true →
    s.engine.state = .running ∨ s.engine.state = .waiting ∨ s.engine.state = .stalled ∨
      s.engine.state = .faultPending ∨ s.engine.state = .halted) ∧
  (s.engine.takeDue = true → s.engine.state = .idle ∧ s.queue ≠ [])

/-- A present is pending only while the scan runs (R103), while the engine is HELD (R110), and, with its
own page, while a PRESENT is WAITING for its switch (R111); a WAIT is WAITING only while the scan runs
(R54, R55). -/
def PresentInv (s : State) : Prop :=
  (s.pages.pending.isSome = true → scanRunning s = true) ∧
  (s.engine.state = .held → s.pages.pending.isSome = true) ∧
  (∀ c, s.engine.state = .waiting → s.engine.current = some c →
    (c.entry.kind = .present → s.pages.pending = some c.entry.presentPage) ∧
    (c.entry.kind = .wait → scanRunning s = true))

/-- The panel sequencer (R142, R155): SHOW is pending only in BLANKED and BLANK only in SHOWING,
show-after-charge is set only in CHARGING, each timer runs exactly in its state, and the actual contrast
is 0 in OFF, CHARGING and DISCHARGING. -/
def PanelInv (s : State) : Prop :=
  (s.panel.pending = .show → s.panel.state = .blanked) ∧
  (s.panel.pending = .blank → s.panel.state = .showing) ∧
  (s.panel.showAfterCharge = true → s.panel.state = .charging) ∧
  (s.panel.chargeTimer.isSome = true ↔ s.panel.state = .charging) ∧
  (s.panel.dischargeTimer.isSome = true ↔ s.panel.state = .discharging) ∧
  (scanRunning s = false → s.panel.contrastActual = 0#5)

/-- While the scan runs the row is below N and the tick count below 32 × D (R118, R125). -/
def ScannerInv (s : State) : Prop :=
  scanRunning s = true →
    s.scanner.row < activeCommons s ∧ s.scanner.tick < s.scanner.active.period

/-- While the scan is stopped no row is driven, and what a row latch still at the arbiter returns is to be
discarded (R118, R123). -/
def DriveInv (s : State) : Prop :=
  scanRunning s = false →
    s.compositor.rowDots = none ∧
      (∀ r, s.arbiter.rowRequest = some r → r.discarded = true) ∧
      ∀ r p, s.arbiter.grant = some (.row r p) → r.discarded = true

/-- The supply monitor (R156): disabled, it is OK with an empty history, and its timer counts below 256. -/
def SupplyInv (s : State) : Prop :=
  (s.supply.enabled = false → s.supply.state = .ok ∧ s.supply.history = none) ∧
  s.supply.timer < 256

/-- A blink group (R136, R138): its position is below the count of its phase, and its copies differ only
while its restart mark is set. -/
def Blink.inRange (b : Blink) : Prop :=
  b.position < (match b.phase with
    | .on => b.active.onCount
    | .off => b.active.offCount) ∧
  (b.restart = false → b.staged = b.active)

/-- The zone table's entries are ordered rectangles of the page (R132). -/
def ZoneEntry.inRange (z : ZoneEntry) : Prop :=
  z.firstColumn.toNat ≤ z.lastColumn.toNat ∧ z.firstRow.toNat ≤ z.lastRow.toNat ∧
    z.lastRow.toNat ≤ 19

/-- The compositor (R132, R136): every zone entry of both copies and every blink position is in range. -/
def CompositorInv (s : State) : Prop :=
  (∀ z ∈ s.compositor.stagedZones.toList, z.inRange) ∧
  (∀ z ∈ s.compositor.activeZones.toList, z.inRange) ∧
  s.compositor.blinkA.inRange ∧ s.compositor.blinkB.inRange

/-- While the part is in reset every block that can act is at its device-reset value (R176, R177). -/
def ResetInv (s : State) : Prop :=
  inReset s = true →
    s.arbiter = Arbiter.reset ∧ s.queue = [] ∧ s.engine = Engine.reset ∧ s.ring = [] ∧
      s.pages = Presentation.reset ∧ s.panel = Panel.reset ∧ s.irq = Irq.reset

/-- The access that an ENGINE_RESET has left to be finished (R16): while it is outstanding the engine and
the queue stand as the reset left them, no page is pending, and the host has taken no other access, so
that no page can become shown or pending before it has ended (R64, R116, R162). -/
def DroppedInv (s : State) : Prop :=
  droppedOutstanding s = true →
    s.engine = Engine.reset ∧ s.queue = [] ∧ s.pages.pending = none ∧ portBusy s = false

/-- The address a data-port access reaches. -/
def PortAccess.address : PortAccess → Nat
  | .read a => a
  | .write a _ => a

/-- The addresses an engine access writes, at once or, for the source read of a COPY byte, with the write
that follows it (R68, R78). -/
def EngineAccess.writes : EngineAccess → List Nat
  | .copyRead _ destination => [destination]
  | .copyWrite destination _ => [destination]
  | .stampRead _ => []
  | .stampModify destination _ _ _ => [destination]

/-- The address an engine access reaches. -/
def EngineAccess.addresses : EngineAccess → List Nat
  | .copyRead source destination => [source, destination]
  | .copyWrite destination _ => [destination]
  | .stampRead source => [source]
  | .stampModify destination _ _ _ => [destination]

/-- The engine's requests and grants (R12, R16, R49, R68, R79): at most one at a time; one whose command
has not been dropped is the next access of the RUNNING command; and a RUNNING engine has one. -/
def EngineAccessInv (s : State) : Prop :=
  (s.arbiter.engineRequest.isSome = true → s.arbiter.grant.any Grant.isEngine = false) ∧
  (∀ e, s.arbiter.engineRequest = some e → e.dropped = false →
    s.engine.state = .running ∧ s.engine.current.bind Current.nextAccess = some e.access) ∧
  (∀ e, s.arbiter.grant = some (.engine e) → e.dropped = false →
    s.engine.state = .running ∧ s.engine.current.bind Current.nextAccess = some e.access) ∧
  (s.engine.state = .running → engineBusy s = true)

/-- The arbiter does not wait: with no grant in progress no request waits (R9). -/
def ArbiterBusyInv (s : State) : Prop :=
  s.arbiter.grant = none →
    s.arbiter.rowRequest = none ∧ s.arbiter.portRequest = none ∧ s.arbiter.engineRequest = none

/-- The engine's turn (R9): an engine request is owed a grant only from the data-port grant that began
while it waited, through the row latches behind it, and no data-port request waits ahead of it. -/
def ServiceInv (s : State) : Prop :=
  s.arbiter.engineOwed = true →
    s.arbiter.engineRequest.isSome = true ∧ s.arbiter.portRequest = none ∧
      ∃ g, s.arbiter.grant = some g ∧ g.isEngine = false

/-- A current command that may yet draw has passed its checks, and a running one stands inside its work
(R38, R68, R79). -/
def DrawingInv (s : State) : Prop :=
  ∀ c, s.engine.current = some c → (c.entry.kind = .copy ∨ c.entry.kind = .stamp) →
    s.engine.state ≠ .stalled → s.engine.state ≠ .faultPending →
    c.entry.check = none ∧
    (s.engine.state ≠ .running →
      c.progress = 0 ∧ c.byteIndex = 0 ∧ c.phase = .reading ∧ c.copyByte = none) ∧
    (c.entry.kind = .copy → c.progress < c.entry.count) ∧
    (c.entry.kind = .stamp → c.progress < c.entry.unclippedHeight ∧
      (c.phase = .reading → c.byteIndex < c.entry.sourceBytes) ∧
      (c.phase = .writing → c.byteIndex < c.entry.destinationBytes))

/-- Every request and grant of the data port and of the engine is for mapped bytes (R6, R66), and every
row request and row-read grant is for a row of a page (R126). -/
def MappedInv (s : State) : Prop :=
  (∀ p, s.arbiter.portRequest = some p → mapped p.address = true) ∧
  (∀ p, s.arbiter.grant = some (.port p) → mapped p.address = true) ∧
  (∀ e a, s.arbiter.engineRequest = some e → a ∈ e.access.addresses → mapped a = true) ∧
  (∀ e a, s.arbiter.grant = some (.engine e) → a ∈ e.access.addresses → mapped a = true) ∧
  (∀ r, s.arbiter.rowRequest = some r → r.row < 20) ∧
  (∀ r p, s.arbiter.grant = some (.row r p) → r.row < 20)

/-- No tearing (R182): while the scan runs, a RUNNING COPY or STAMP without LIVE, bit 1 of its flags (Table
10-6), touches neither the shown page nor the pending page. -/
def TearFree (s : State) : Prop :=
  ∀ c, s.engine.state = .running → s.engine.current = some c → c.entry.flags.getLsbD 1 = false →
    scanRunning s = true →
    c.entry.touches s.pages.shown = false ∧ ∀ q, s.pages.pending = some q → c.entry.touches q = false

/-- A state that the part's rules allow: every invariant together. -/
def Inv (s : State) : Prop :=
  MemoryInv s ∧ BoundsInv s ∧ WaitingRecordInv s ∧ EngineInv s ∧ PresentInv s ∧ PanelInv s ∧
    ScannerInv s ∧ DriveInv s ∧ SupplyInv s ∧ CompositorInv s ∧ ResetInv s ∧ EngineAccessInv s ∧
    ArbiterBusyInv s ∧ ServiceInv s ∧ DroppedInv s ∧ DrawingInv s ∧ MappedInv s

end Sys2Proof.Machine
end

