-- ==== Sys2Proof/Certificates/Slice0/Obligations.lean ====
section
/-! DEFINITION. The statements for the provers. Each gives, for the commands it names, the whole next state
under hypotheses on the state and the operands alone: what is not written in it is unchanged. An access of
the host is stated in a state that is `Ready`, an event of the part in a state that is `Settled`; that
every other state is brought to one of these first is stated by `DueTakesComeFirst` and
`EveryAccessMeetsAReadyPart`. -/

open Sys2Proof Sys2Proof.Machine

/-! ## The machine as a whole -/

/-- The machine takes the command at the front of its queue and runs it with the rest of the queue. -/
def Obligations.StepRunsTheFrontCommand : Prop :=
  ∀ (c : Instr) (s : State), step { s with pending := c :: s.pending } = exec c s

/-- With no command waiting a step puts the part's own next event in the queue, and nothing else is in it:
the end of the grant in progress, or else the take by an IDLE engine, or else what one reference tick
brings. In a tick the scanner, the panel's timers and the sample timer count where they run, and exactly
the events that come due join the queue, each once: the end of a common period, of a positive frame or of
a pair (R121), the charge and discharge expiries (R149, R152), and a sample at each 256th tick of an
enabled monitor (R157). In reset a tick counts the release interval alone (R176, R177). That the part
goes on by itself in this order is the model's choice (assumption 4), and that the sample it takes by itself
finds the supply at the level kept from the last SAMPLE command is its choice too (assumption 9); the order
of coincident events is free (assumption 6). -/
def Obligations.EmptyQueueStepCountsOrQueuesEvents : Prop :=
  ∀ s : State, s.pending = [] → ∃ t, step s = .next t ∧
    t = { s with
      pending := t.pending
      freeCount := t.freeCount
      scanner := { s.scanner with tick := t.scanner.tick }
      panel := { s.panel with
        chargeTimer := t.panel.chargeTimer, dischargeTimer := t.panel.dischargeTimer }
      supply := { s.supply with timer := t.supply.timer }
      resetInputs := { s.resetInputs with powerOn := t.resetInputs.powerOn } } ∧
    (∀ c ∈ t.pending, isHostAccess c = false ∧ (isResetEvent c = false ∨ c = .powerOnRelease)) ∧
    (inReset s = false →
      (∀ g, s.arbiter.grant = some g → t = { s with pending := [g.ending] }) ∧
      (s.arbiter.grant = none → s.engine.state = .idle → ∀ e rest, s.queue = e :: rest →
        t = { s with pending := [e.kind.takeCommand] }) ∧
      (s.arbiter.grant = none → (s.engine.state ≠ .idle ∨ s.queue = []) →
        t = { s with
          pending := t.pending
          freeCount := t.freeCount
          scanner := { s.scanner with
            tick := if scanRunning s = true ∧ s.scanner.tick + 1 < 32 * s.scanner.active.divider then
              s.scanner.tick + 1 else s.scanner.tick }
          panel := { s.panel with
            chargeTimer := s.panel.chargeTimer.map (fun n => n - 1)
            dischargeTimer := if s.panel.chargeTimer.isSome then s.panel.dischargeTimer
              else s.panel.dischargeTimer.map (fun n => n - 1) }
          supply := { s.supply with
            timer := if s.supply.enabled = true ∧ s.supply.timer + 1 < 256 then s.supply.timer + 1
              else s.supply.timer } } ∧
        (t.freeCount = s.freeCount ∨ t.freeCount = s.freeCount + 1) ∧
        t.pending.Nodup ∧
        ∀ c : Instr, c ∈ t.pending ↔
          (scanRunning s = true ∧ 32 * s.scanner.active.divider ≤ s.scanner.tick + 1 ∧
            ((c = .rowChange ∧ s.scanner.row + 1 < activeCommons s) ∨
              (c = .frameBoundary ∧ activeCommons s ≤ s.scanner.row + 1 ∧
                s.scanner.polarity = .positive) ∨
              (c = .pairBoundary ∧ activeCommons s ≤ s.scanner.row + 1 ∧
                s.scanner.polarity = .negative))) ∨
          (c = .chargeExpiry ∧ ∃ n, s.panel.chargeTimer = some n ∧ n ≤ 1) ∨
          (c = .dischargeExpiry ∧ s.panel.chargeTimer = none ∧
            ∃ n, s.panel.dischargeTimer = some n ∧ n ≤ 1) ∨
          (c = .sample s.supply.millivolts ∧ s.supply.enabled = true ∧ 256 ≤ s.supply.timer + 1))) ∧
    (inReset s = true →
      (∀ n, s.resetInputs.powerOn = .releasing n → t = { s with
        resetInputs := { s.resetInputs with powerOn := .releasing (n - 1) }
        pending := if n ≤ 1 then [.powerOnRelease] else [] }) ∧
      ((s.resetInputs.powerOn = .released ∨ s.resetInputs.powerOn = .supplyLow) → t = s))

/-- No command stops the machine, and none touches the commands behind it (R59, R145: a mistake of the
host sets a flag; R41: a faulty entry leaves a record). -/
def Obligations.EveryCommandAnswersANextState : Prop :=
  ∀ (c : Instr) (s : State), ∃ t, exec c s = .next t ∧ t.pending = s.pending

/-- While the part is in reset no bus cycle is taken and nothing happens in it but the events of the reset
inputs (R161, R176, R177). -/
def Obligations.APartInResetStandsStill : Prop :=
  ∀ (c : Instr) (s : State), ResetInv s → inReset s = true → c.wellFormed = true →
    isResetEvent c = false → exec c s = .next s

/-- A take that is due is taken before any other command but a reset (R38, R51): a command that meets a
due take acts on the state the take leaves. That the take is a step of its own is the model's
(assumption 3). -/
def Obligations.DueTakesComeFirst : Prop :=
  ∀ (s : State) (e : Entry) (rest : List Entry), s.queue = e :: rest →
    BoundsInv s → EngineInv s → inReset s = false → s.engine.takeDue = true →
    ∀ c : Instr, isTake c = false → isResetEvent c = false →
    ∃ t, exec e.kind.takeCommand s = .next t ∧ exec c s = exec c t

/-- An access of the host meets a part in which no take is due, and no data-port grant and no access left
to be finished by an ENGINE_RESET is outstanding (R16, R51, R162, R169), and acts there as it does in that
state; such a grant in progress ends first, as by the command that ends it. A read is such an access too
(R162): it leaves the part in the state it met, which it shows, but FRAME_COUNT lo, which is its command,
and PORT_DATA, which is its command with the grant that returns a byte in the same cycle (R168): the byte
that grant returned, which is the byte at the pointer where nothing else is at the arbiter, and 00h at an
unmapped pointer (R170). A write is the command of its offset and byte. In reset none is taken (R161). The
order is the model's reading (assumptions 3, 10, 21 and 33). -/
def Obligations.EveryAccessMeetsAReadyPart : Prop :=
  ∀ s : State, Inv s →
    (inReset s = true → ∀ offset, hostRead offset s = (s, none)) ∧
    (inReset s = false →
      Ready (beforeAccess s) ∧
      (∀ c, isHostAccess c = true →
        exec c s = exec c (beforeAccess s) ∧
        ∀ p, Settled s → s.arbiter.grant = some (.port p) → s.arbiter.portRequest = none →
          ∃ t, exec .dataPortGrant s = .next t ∧ exec c s = exec c t) ∧
      (∀ c, isHostAccess c = true → ∀ e : EngineRequest, e.dropped = true →
        s.arbiter.grant = some (.engine e) →
          ∃ t, exec (Grant.engine e).ending s = .next t ∧ exec c s = exec c t) ∧
      (∀ offset : BitVec 6, offset ≠ 0x1E#6 → offset ≠ 0x2B#6 →
        hostRead offset s = (beforeAccess s, some (readRegister (beforeAccess s) offset))) ∧
      (∃ t, exec .frameCountLoRead s = .next t ∧ hostRead 0x1E#6 s = (t, t.port.readValue)) ∧
      (∃ t v, exec .portDataRead s = .next t ∧
        (settleAccess settleBound t).port.readValue = some v ∧
        hostRead 0x2B#6 s = (settleAccess settleBound t, some v) ∧
        accessOutstanding (settleAccess settleBound t) = false ∧
        (0x0E80 ≤ (beforeAccess s).port.pointer.toNat → v = 0#8) ∧
        ((beforeAccess s).port.pointer.toNat < 0x0E80 → (beforeAccess s).arbiter.grant = none →
          v = byteAt (beforeAccess s) (beforeAccess s).port.pointer.toNat)) ∧
      ∀ offset v, exec (writeCommand offset v) s = .next (hostWrite offset v s))

/-! ## The host bus -/

/-- The host writes and the commands of the table agree: every write of a byte at an offset of the window
is one well-formed command, from which offset and byte are read back; and every well-formed command that
is a host write is the command of its write (R163, Table 10-1). A cycle of the bus is a read or a write
by its strobes and acts as that access, and as none with nCS high, with no strobe, or with both strobes
where nRD did not fall first (R161). -/
def Obligations.BusWritesAndCommandsAgree : Prop :=
  (∀ (offset : BitVec 6) (v : Byte),
    (writeCommand offset v).wellFormed = true ∧
      busWrite (writeCommand offset v) = some (offset, v)) ∧
  (∀ (c : Instr) (offset : BitVec 6) (v : Byte),
    c.wellFormed = true → busWrite c = some (offset, v) → writeCommand offset v = c) ∧
  ∀ (y : BusCycle) (s : State),
    (y.selected = false → y.access = none) ∧
    (y.selected = true →
      (y.readStrobe = false → y.writeStrobe = false → y.access = none) ∧
      (y.readStrobe = true → (y.writeStrobe = false ∨ y.first = .read) →
        y.access = some (.read y.offset)) ∧
      (y.readStrobe = false → y.writeStrobe = true → y.access = some (.write y.offset y.data)) ∧
      (y.readStrobe = true → y.writeStrobe = true → y.first ≠ .read → y.access = none)) ∧
    (y.access = none → takeCycle y s = (s, none)) ∧
    (∀ offset, y.access = some (.read offset) → takeCycle y s = hostRead offset s) ∧
    ∀ offset v, y.access = some (.write offset v) →
      (takeCycle y s).2 = none ∧ exec (writeCommand offset v) s = .next (takeCycle y s).1

/-! ## The command queue -/

/-- PUSH (R26), in every engine and panel state: an unassigned code latches REJECT and makes no entry, an
assigned code on a full queue latches OVERRUN, and otherwise the entry built from the staging registers
joins at the tail, QUEUE_COUNT rising by one and SPACE following. -/
def Obligations.PushAppendsRejectsOrOverruns : Prop :=
  ∀ s : State, Ready s →
    (∀ code : Byte, (code.toNat = 0 ∨ 7 ≤ code.toNat) →
      exec (.push code) s = .next { s with irq := { s.irq with reject := true } }) ∧
    (∀ k : Kind, 16 ≤ s.queue.length →
      exec (.push k.code) s = .next { s with irq := { s.irq with overrun := true } }) ∧
    (∀ k : Kind, s.queue.length < 16 →
      ∃ t, exec (.push k.code) s = .next t ∧
        t = { s with queue := s.queue ++ [⟨k, s.staging.tag, s.staging.flags, s.staging.a,
          s.staging.b, s.staging.c, s.staging.d, s.staging.e⟩] } ∧
        (readRegister t 0x03#6).toNat = (readRegister s 0x03#6).toNat + 1 ∧
        (spaceFlag t = true ↔ s.spaceThreshold.toNat ≤ 16 - (s.queue.length + 1)))

/-- SPACE_THRESHOLD (R32): 1 to 16 replaces it, any other value is refused with the threshold kept; SPACE
follows at once; a read returns it; it is 4 after device reset and kept by an engine reset; and a push
onto a queue that is not full does not depend on it. -/
def Obligations.SpaceThresholdAcceptsOneToSixteen : Prop :=
  ∀ (s : State) (v : Byte), Ready s →
    (1 ≤ v.toNat → v.toNat ≤ 16 →
      exec (.spaceThreshold v) s = .next { s with spaceThreshold := v } ∧
      (spaceFlag { s with spaceThreshold := v } = true ↔ v.toNat ≤ 16 - s.queue.length)) ∧
    ((v.toNat = 0 ∨ 17 ≤ v.toNat) → exec (.spaceThreshold v) s = .next (withRefused s)) ∧
    readRegister s 0x07#6 = s.spaceThreshold ∧
    (∃ t, exec .deviceReset s = .next t ∧ t.spaceThreshold = 4#8) ∧
    (∃ t, exec .engineReset s = .next t ∧ t.spaceThreshold = s.spaceThreshold) ∧
    ∀ k : Kind, s.queue.length < 16 →
      ∃ t u, exec (.push k.code) s = .next t ∧
        exec (.push k.code) { s with spaceThreshold := v } = .next u ∧ t.queue = u.queue ∧
        t.queue.length = s.queue.length + 1

/-- FLUSH (R33): every entry is removed, in every engine state, and nothing else changes: the current
command and the engine are as they were. A take after it finds the queue empty and takes nothing. -/
def Obligations.FlushEmptiesTheQueueAndNothingElse : Prop :=
  ∀ s : State, Ready s → exec .flush s = .next { s with queue := [] } ∧
    readRegister { s with queue := [] } 0x03#6 = 0#8 ∧
    (s.spaceThreshold.toNat ≤ 16 → spaceFlag { s with queue := [] } = true) ∧
    ∀ k : Kind, exec k.takeCommand { s with queue := [] } = .next { s with queue := [] }

/-! ## The takes -/

/-- A take whose checks fail (R38, R39, R41), of any kind: the entry leaves the queue and faults with the
status of the first check that fails and progress 0, whatever NOTIFY holds. PARAMETER comes first, for a
COPY of no byte or more than 4096 (R65), a STAMP with a field out of range (R73), a PRESENT with D above 3
(R21), a ZONE in five cases (R22) and a WAIT with D = 0 (R23); then SOURCE_RANGE and then DEST_RANGE, for
an address that is not mapped (R66, R67, R76). A MARK passes. -/
def Obligations.AFailedCheckFaultsAtTheTake : Prop :=
  ∀ e : Entry,
    (∀ (s : State) (rest : List Entry), s.queue = e :: rest → s.engine.state = .idle →
      ∀ f, e.check = some f →
      exec e.kind.takeCommand s =
        .next (endsInFault ⟨e.tag, e.kind, f, 0, false, false⟩ (taken e rest s))) ∧
    (e.kind = .copy →
      ∀ source destination : Nat → Nat,
        (∀ k, source k = if e.flags.getLsbD 2 then e.a.toNat else e.a.toNat + k) →
        (∀ k, destination k = if e.flags.getLsbD 3 then e.b.toNat else e.b.toNat + k) →
        ((e.c.toNat = 0 ∨ 4096 < e.c.toNat) → e.check = some .parameter) ∧
        (1 ≤ e.c.toNat → e.c.toNat ≤ 4096 →
          ((∃ k, k < e.c.toNat ∧ 0x0E80 ≤ source k) → e.check = some .sourceRange) ∧
          ((∀ k, k < e.c.toNat → source k < 0x0E80) →
            ((∃ k, k < e.c.toNat ∧ 0x0E80 ≤ destination k) → e.check = some .destRange) ∧
            ((∀ k, k < e.c.toNat → destination k < 0x0E80) → e.check = none)))) ∧
    (e.kind = .stamp →
      ∀ page stride width height : Nat, page = (hiByte e.b).toNat → stride = (loByte e.b).toNat →
        width = (loByte e.c).toNat → height = (hiByte e.c).toNat →
        ((3 < page ∨ width = 0 ∨ 64 < width ∨ height = 0 ∨ 20 < height ∨ 63 < e.d.toNat ∨
            19 < e.e.toNat) → e.check = some .parameter) ∧
        (page ≤ 3 → 1 ≤ width → width ≤ 64 → 1 ≤ height → height ≤ 20 → e.d.toNat ≤ 63 →
          e.e.toNat ≤ 19 →
          ((∃ i m, i < height ∧ 8 * m < width ∧ 0x0E80 ≤ e.a.toNat + i * stride + m) →
            e.check = some .sourceRange) ∧
          ((∀ i m, i < height → 8 * m < width → e.a.toNat + i * stride + m < 0x0E80) →
            e.check = none))) ∧
    (e.kind = .present → e.check = if 3 < e.d.toNat then some .parameter else none) ∧
    (e.kind = .zone →
      e.check =
        if 7 < e.d.toNat ∨ (hiByte e.a).toNat < (loByte e.a).toNat ∨ 63 < (hiByte e.a).toNat ∨
          (hiByte e.b).toNat < (loByte e.b).toNat ∨ 19 < (hiByte e.b).toNat then some .parameter
        else none) ∧
    (e.kind = .wait → e.check = if e.d.toNat = 0 then some .parameter else none) ∧
    (e.kind = .mark → e.check = none)

/-- COPY and STAMP that may begin (R38, R40, R43, R48, R74): the engine is RUNNING, a STAMP that passes
the page's edge is marked clipped, and the first access is requested, in the event of the take itself by
the model's choice (assumption 34). -/
def Obligations.AnAllowedDrawingBeginsAtItsTake : Prop :=
  ∀ (s : State) (e : Entry) (rest : List Entry), s.queue = e :: rest → s.engine.state = .idle →
    ArbiterBusyInv s → e.check = none → MayBegin e s →
    (e.kind = .copy →
      exec .copy s = .next { taken e rest s with
        engine := { (taken e rest s).engine with state := .running, holdReason := .none }
        arbiter := engineAsks (.copyRead e.a.toNat e.b.toNat) s.arbiter }) ∧
    (e.kind = .stamp →
      exec .stamp s = .next { taken e rest s with
        engine := { (taken e rest s).engine with
          state := .running
          holdReason := .none
          current := some { Current.ofEntry e with
            clipped := decide
              (64 < e.d.toNat + (loByte e.c).toNat ∨ 20 < e.e.toNat + (hiByte e.c).toNat) } }
        arbiter := engineAsks (.stampRead e.a.toNat) s.arbiter })

/-- COPY and STAMP without LIVE, bit 1 of the flags, that may not begin (R43): with a present pending
they are HELD with reason PAGE, and with none pending they fault SHOWN_PAGE. -/
def Obligations.TheHoldRuleHoldsOrFaultsADrawing : Prop :=
  ∀ (s : State) (e : Entry) (rest : List Entry), s.queue = e :: rest → s.engine.state = .idle →
    (e.kind = .copy ∨ e.kind = .stamp) → e.check = none → e.flags.getLsbD 1 = false →
    (∀ q, s.pages.pending = some q → (e.touches q = true ∨ e.touches s.pages.shown = true) →
      exec e.kind.takeCommand s = .next { taken e rest s with
        engine := { (taken e rest s).engine with
          state := .held
          holdReason := .page
          current := some { Current.ofEntry e with heldOnce := true } } }) ∧
    (s.pages.pending = none → scanRunning s = true → e.touches s.pages.shown = true →
      exec e.kind.takeCommand s =
        .next (endsInFault ⟨e.tag, e.kind, .shownPage, 0, false, false⟩ (taken e rest s)))

/-- PRESENT of page `p` (R44, R57, R104, R105): held while a present is pending; pending while the scan
runs, with the command DONE at once or, with WAIT_SHOWN, WAITING; shown and DONE at once while the scan
is stopped. WAIT_SHOWN is bit 6 of the entry's flags and NOTIFY, by which the record is due, bit 0
(R181, Table 10-6). -/
def Obligations.PresentIsHeldPendingOrShown : Prop :=
  ∀ (s : State) (e : Entry) (rest : List Entry), s.queue = e :: rest → s.engine.state = .idle →
    e.kind = .present → ∀ p : Fin 4, e.d.toNat = p.val →
    (s.pages.pending.isSome = true →
      exec .present s = .next { taken e rest s with
        engine := { (taken e rest s).engine with
          state := .held
          holdReason := .present
          current := some { Current.ofEntry e with heldOnce := true } } }) ∧
    (s.pages.pending = none → scanRunning s = true → e.flags.getLsbD 6 = false →
      exec .present s = .next (endsNormally (e.flags.getLsbD 0) ⟨e.tag, .present, .done, 0, false, false⟩
        { taken e rest s with pages := ⟨s.pages.shown, some p⟩ })) ∧
    (s.pages.pending = none → scanRunning s = true → e.flags.getLsbD 6 = true →
      exec .present s = .next { taken e rest s with
        pages := ⟨s.pages.shown, some p⟩
        engine := { (taken e rest s).engine with state := .waiting, holdReason := .none } }) ∧
    (s.pages.pending = none → scanRunning s = false →
      exec .present s = .next (endsNormally (e.flags.getLsbD 0) ⟨e.tag, .present, .done, 0, false, false⟩
        { taken e rest s with pages := ⟨p, none⟩ }))

/-- ZONE of index `i` (R22, R58, R133): the five fields of the staged entry are written, and of the active
entry too while the scan is stopped, and the command is DONE. -/
def Obligations.ZoneWritesOneEntry : Prop :=
  ∀ (s : State) (e : Entry) (rest : List Entry), s.queue = e :: rest → s.engine.state = .idle →
    e.kind = .zone → ∀ i : Fin 8, e.d.toNat = i.val →
    (loByte e.a).toNat ≤ (hiByte e.a).toNat → (hiByte e.a).toNat ≤ 63 →
    (loByte e.b).toNat ≤ (hiByte e.b).toNat → (hiByte e.b).toNat ≤ 19 →
    ∀ z : ZoneEntry, z =
      { enable := e.e.getLsbD 0
        effect := if e.e.getLsbD 2 then (if e.e.getLsbD 1 then .blinkInvert else .blinkOff)
          else (if e.e.getLsbD 1 then .blank else .invert)
        group := if e.e.getLsbD 3 then .b else .a
        firstColumn := BitVec.ofNat 6 (loByte e.a).toNat
        lastColumn := BitVec.ofNat 6 (hiByte e.a).toNat
        firstRow := BitVec.ofNat 5 (loByte e.b).toNat
        lastRow := BitVec.ofNat 5 (hiByte e.b).toNat } →
    exec .zone s = .next (endsNormally (e.flags.getLsbD 0) ⟨e.tag, .zone, .done, 0, false, false⟩
      { taken e rest s with compositor := { s.compositor with
          stagedZones := s.compositor.stagedZones.set i z
          activeZones := if scanRunning s then s.compositor.activeZones
            else s.compositor.activeZones.set i z } })

/-- WAIT and MARK (R54, R56): a WAIT of 1 to 255 is WAITING with progress 0 while the scan runs and ends
NO_SCAN at once while it is stopped; a MARK is DONE at once with its record always due. -/
def Obligations.WaitAndMarkAtTheirTake : Prop :=
  ∀ (s : State) (e : Entry) (rest : List Entry), s.queue = e :: rest → s.engine.state = .idle →
    (e.kind = .wait → 1 ≤ e.d.toNat → scanRunning s = true →
      exec .wait s = .next { taken e rest s with
        engine := { (taken e rest s).engine with state := .waiting } }) ∧
    (e.kind = .wait → 1 ≤ e.d.toNat → scanRunning s = false →
      exec .wait s = .next (endsNormally (e.flags.getLsbD 0) ⟨e.tag, .wait, .noScan, 0, false, false⟩
        (taken e rest s))) ∧
    (e.kind = .mark →
      exec .mark s = .next (endsNormally true ⟨e.tag, .mark, .done, 0, false, false⟩
        (taken e rest s)))

/-! ## The engine requests -/

/-- PAUSE in every engine state (R60, Table 3-3): refused while a pause is requested and in PAUSED; IDLE
and HELD enter PAUSED, the held command staying current; every other state marks the pause requested. -/
def Obligations.PauseInEveryEngineState : Prop :=
  ∀ s : State, Ready s →
    (s.engine.pauseRequested = true → exec .pause s = .next (withRefused s)) ∧
    (s.engine.pauseRequested = false →
      ((s.engine.state = .idle ∨ s.engine.state = .held) →
        exec .pause s = .next { s with engine := { s.engine with state := .paused } }) ∧
      ((s.engine.state = .running ∨ s.engine.state = .waiting ∨ s.engine.state = .stalled ∨
          s.engine.state = .faultPending ∨ s.engine.state = .halted) →
        exec .pause s = .next { s with engine := { s.engine with pauseRequested := true } }) ∧
      (s.engine.state = .paused → exec .pause s = .next (withRefused s)))

/-- RESUME with no held command and CONTINUE (R61, R63, Table 3-3). RESUME out of PAUSED leaves the engine
ready to take, or IDLE with an empty queue; in any other state it clears a set pause-requested, and is
otherwise refused. CONTINUE leaves HALTED, to PAUSED when a pause was requested and otherwise to where the
engine takes or is IDLE; in every other state it is refused. That the engine then stands IDLE with its
take due, and takes in a step of its own, is the model's choice (assumption 3). -/
def Obligations.ResumeAndContinueLeaveTheirStates : Prop :=
  ∀ s : State, Ready s →
    (s.engine.state = .paused → s.engine.current = none →
      exec .resume s = .next { s with
        engine := { s.engine with state := .idle, takeDue := !s.queue.isEmpty } }) ∧
    (s.engine.state ≠ .paused → s.engine.pauseRequested = true →
      exec .resume s = .next { s with engine := { s.engine with pauseRequested := false } }) ∧
    (s.engine.state ≠ .paused → s.engine.pauseRequested = false →
      exec .resume s = .next (withRefused s)) ∧
    (s.engine.state = .halted → s.engine.pauseRequested = true →
      exec .continueHalted s = .next { s with
        engine := { s.engine with state := .paused, pauseRequested := false } }) ∧
    (s.engine.state = .halted → s.engine.pauseRequested = false →
      exec .continueHalted s = .next { s with
        engine := { s.engine with state := .idle, takeDue := !s.queue.isEmpty } }) ∧
    (s.engine.state ≠ .halted → exec .continueHalted s = .next (withRefused s))

/-- RESUME of a held command (R45, R46, R61): reason PAGE is judged by the hold rule against the present
state, and begins, is held again or faults SHOWN_PAGE; reason PRESENT is held again while a present is
pending, and is otherwise handed over. That a command that begins raises its first request in the event of
the RESUME is the model's choice (assumption 34). -/
def Obligations.ResumeJudgesAHeldCommand : Prop :=
  ∀ (s : State) (c : Current), s.engine.current = some c → s.engine.state = .paused → Inv s →
    Ready s →
    (s.engine.holdReason = .page →
      (HoldRuleAllows c.entry s →
        exec .resume s = .next { s with
          engine := engineBegins c s.engine
          arbiter := engineAsks (firstAccess c.entry) s.arbiter }) ∧
      (¬ HoldRuleAllows c.entry s → s.pages.pending.isSome = true →
        exec .resume s = .next { s with engine := { s.engine with
          state := .held, holdReason := .page, current := some { c with heldOnce := true } } }) ∧
      (¬ HoldRuleAllows c.entry s → s.pages.pending = none →
        exec .resume s =
          .next (endsInFault ⟨c.entry.tag, c.entry.kind, .shownPage, 0, false, c.heldOnce⟩ s))) ∧
    (s.engine.holdReason = .present →
      (s.pages.pending.isSome = true →
        exec .resume s = .next { s with engine := { s.engine with
          state := .held, holdReason := .present, current := some { c with heldOnce := true } } }) ∧
      (s.pages.pending = none → scanRunning s = true → c.entry.flags.getLsbD 6 = false →
        exec .resume s =
          .next (endsNormally (c.entry.flags.getLsbD 0)
            ⟨c.entry.tag, .present, .done, 0, false, c.heldOnce⟩
            { s with pages := ⟨s.pages.shown, some c.entry.presentPage⟩ })) ∧
      (s.pages.pending = none → scanRunning s = true → c.entry.flags.getLsbD 6 = true →
        exec .resume s = .next { s with
          pages := ⟨s.pages.shown, some c.entry.presentPage⟩
          engine := { s.engine with state := .waiting, holdReason := .none } }) ∧
      (s.pages.pending = none → scanRunning s = false →
        exec .resume s =
          .next (endsNormally (c.entry.flags.getLsbD 0)
            ⟨c.entry.tag, .present, .done, 0, false, c.heldOnce⟩
            { s with pages := ⟨c.entry.presentPage, none⟩ })))

/-- ABORT of a RUNNING command (R62, R72, R81): refused once noted. It is noted while a byte or row is in
progress: an access of the command has its grant, a COPY holds the byte it has read, or a STAMP is in the
write phase of its row or has read a byte of it. Otherwise no byte or row has begun since the last ended:
the waiting request is withdrawn and the command ends ABORTED with the progress it has. A request
withdrawn is owed no grant (assumption 30). -/
def Obligations.AbortOfARunningCommand : Prop :=
  ∀ (s : State) (c : Current), s.engine.current = some c → s.engine.state = .running → Ready s →
    (c.abortNoted = true → exec .abort s = .next (withRefused s)) ∧
    (c.abortNoted = false →
      ((∃ access, s.arbiter.grant = some (.engine ⟨access, false⟩)) ∨
        (c.entry.kind = .copy ∧ ∃ v, c.copyByte = some v) ∨
        (c.entry.kind = .stamp ∧ (c.phase = .writing ∨ 0 < c.byteIndex))) →
      exec .abort s = .next { s with
        engine := { s.engine with current := some { c with abortNoted := true } } }) ∧
    (c.abortNoted = false → (∀ access, s.arbiter.grant ≠ some (.engine ⟨access, false⟩)) →
      (c.entry.kind = .copy → c.copyByte = none) →
      (c.entry.kind = .stamp → c.phase = .reading ∧ c.byteIndex = 0) →
      exec .abort s = .next (endsNormally true
        ⟨c.entry.tag, c.entry.kind, .aborted, c.progress, c.clipped, c.heldOnce⟩
        { s with arbiter := { s.arbiter with
            engineRequest := s.arbiter.engineRequest.filter (fun r => r.dropped)
            engineOwed := s.arbiter.engineOwed &&
              (s.arbiter.engineRequest.filter (fun r => r.dropped)).isSome } }))

/-- ABORT outside RUNNING (R62, Table 3-3): a HELD command and a held command in PAUSED end ABORTED with
progress 0 and HELD set, the latter returning to PAUSED; a WAIT ends with the boundaries counted, and a
WAIT_SHOWN PRESENT with its page left pending; in every other state it is refused. -/
def Obligations.AbortOutsideRunning : Prop :=
  ∀ s : State, Ready s →
    (∀ c, s.engine.current = some c → s.engine.state = .held →
      exec .abort s = .next (endsNormally true
        ⟨c.entry.tag, c.entry.kind, .aborted, 0, false, true⟩ s)) ∧
    (∀ c, s.engine.current = some c → s.engine.state = .paused →
      exec .abort s = .next (endsNormally true
        ⟨c.entry.tag, c.entry.kind, .aborted, 0, false, true⟩
        { s with engine := { s.engine with pauseRequested := true } })) ∧
    (∀ c, s.engine.current = some c → s.engine.state = .waiting → c.entry.kind = .wait →
      exec .abort s = .next (endsNormally true
        ⟨c.entry.tag, .wait, .aborted, c.progress, false, false⟩ s)) ∧
    (∀ c, s.engine.current = some c → s.engine.state = .waiting → c.entry.kind = .present →
      exec .abort s = .next (endsNormally true
        ⟨c.entry.tag, .present, .aborted, 0, false, c.heldOnce⟩ s)) ∧
    ((s.engine.state = .idle ∨ s.engine.state = .stalled ∨ s.engine.state = .faultPending ∨
        s.engine.state = .halted ∨ (s.engine.state = .paused ∧ s.engine.current = none)) →
      exec .abort s = .next (withRefused s))

/-- ENGINE_RESET (R16, R35, R64): queue, ring, staging registers, engine and pending present are cleared
and the staged zones follow the active ones; a waiting COPY write and any engine grant in progress are
left to complete, marked dropped, and every other engine request is withdrawn, which is then owed no
grant (assumption 30). What is left ends before the host's next access (assumption 33). -/
def Obligations.EngineResetDropsTheEnginesWork : Prop :=
  ∀ s : State, Ready s →
    exec .engineReset s = .next { s with
      queue := []
      staging := ⟨0#8, 0#7, 0#16, 0#16, 0#16, 0#8, 0#8⟩
      engine := ⟨.idle, none, .none, false, none, false⟩
      ring := []
      pages := { s.pages with pending := none }
      compositor := { s.compositor with stagedZones := s.compositor.activeZones }
      arbiter := { s.arbiter with
        engineRequest := (match s.arbiter.engineRequest with
          | some ⟨.copyWrite d v, _⟩ => some ⟨.copyWrite d v, true⟩
          | _ => none)
        engineOwed := (match s.arbiter.engineRequest with
          | some ⟨.copyWrite _ _, _⟩ => s.arbiter.engineOwed
          | _ => false)
        grant := (match s.arbiter.grant with
          | some (.engine r) => some (.engine ⟨r.access, true⟩)
          | g => g) } }

/-- POP (R94): refused on an empty ring; otherwise the head record is removed, RING_COUNT falls by one
and the CR_ registers show the next oldest record, its tag, kind, status, progress and info, or read
00h. Where a record is waiting (R96), it is written at the tail in the same event, after which the
engine goes on from STALLED (R51) or is HALTED from FAULT_PENDING. That an engine which goes on to a
take stands IDLE with the take due, and takes in a step of its own, is the model's choice (assumption
3). -/
def Obligations.PopRemovesTheHeadRecord : Prop :=
  ∀ s : State, Ready s → WaitingRecordInv s →
    (s.ring = [] → exec .pop s = .next (withRefused s)) ∧
    ∀ r rest, s.ring = r :: rest →
      (s.engine.state ≠ .stalled → s.engine.state ≠ .faultPending →
        exec .pop s = .next { s with ring := rest } ∧
        (readRegister { s with ring := rest } 0x04#6).toNat + 1 = (readRegister s 0x04#6).toNat ∧
        (rest = [] → ∀ o : BitVec 6, 0x13 ≤ o.toNat → o.toNat ≤ 0x18 →
          readRegister { s with ring := rest } o = 0#8) ∧
        ∀ n older, rest = n :: older →
          readRegister { s with ring := rest } 0x13#6 = n.tag ∧
          readRegister { s with ring := rest } 0x14#6 = n.kind.code ∧
          readRegister { s with ring := rest } 0x15#6 = n.status.code ∧
          (n.progress < 65536 →
            (readRegister { s with ring := rest } 0x16#6).toNat = n.progress % 256 ∧
            (readRegister { s with ring := rest } 0x17#6).toNat = n.progress / 256) ∧
          (readRegister { s with ring := rest } 0x18#6).toNat =
            n.clipped.toNat + 2 * n.held.toNat) ∧
      (∀ w, s.engine.waitingRecord = some w → s.engine.state = .stalled →
        exec .pop s = .next { s with ring := rest ++ [w], engine := engineGoesOn s }) ∧
      (∀ w, s.engine.waitingRecord = some w → s.engine.state = .faultPending →
        exec .pop s = .next { s with
          ring := rest ++ [w]
          engine := { s.engine with state := .halted, current := none, waitingRecord := none } })

/-- Unassigned request codes (R59, R145): refused, with nothing else changed. -/
def Obligations.UnassignedRequestsAreRefused : Prop :=
  ∀ (s : State) (code : Byte), Ready s →
    ((code.toNat = 0 ∨ 8 ≤ code.toNat) →
      exec (.unassignedEngineRequest code) s = .next (withRefused s)) ∧
    ((code.toNat = 0 ∨ 5 ≤ code.toNat) →
      exec (.unassignedPanelRequest code) s = .next (withRefused s))

/-! ## The panel requests -/

/-- POWER_ON, SHOW, BLANK and POWER_OFF in every panel state (R146, R147, R148, R149, R152, Table 8-2).
POWER_ON enters CHARGING from OFF with the supply OK and is refused elsewhere; POWER_OFF discharges from
CHARGING, stops from BLANKED and SHOWING and does nothing elsewhere; SHOW and BLANK act on
show-after-charge in CHARGING and on the pending request in BLANKED and SHOWING, and are refused
elsewhere. -/
def Obligations.PanelRequestsInEveryPanelState : Prop :=
  ∀ s : State, Ready s →
    (s.panel.state = .off → s.supply.state = .ok →
      exec .powerOn s = .next { s with
        panel := { s.panel with
          state := .charging
          showAfterCharge := false
          chargeTimer := some (2048 * 2 ^ s.panel.chargeTime.toNat) }
        irq := { s.irq with panel := true } }) ∧
    ((s.panel.state ≠ .off ∨ s.supply.state = .low) →
      exec .powerOn s = .next (withRefused s)) ∧
    (s.panel.state = .charging →
      exec .powerOff s = .next { s with
        panel := { s.panel with
          state := .discharging
          pending := .none
          showAfterCharge := false
          chargeTimer := none
          dischargeTimer := some 1024
          contrastActual := 0#5 }
        irq := { s.irq with panel := true } }) ∧
    ((s.panel.state = .blanked ∨ s.panel.state = .showing) →
      exec .powerOff s = .next { s with
        panel := { s.panel with state := .stopping, pending := .none }
        irq := { s.irq with panel := true } }) ∧
    ((s.panel.state = .off ∨ s.panel.state = .stopping ∨ s.panel.state = .discharging) →
      exec .powerOff s = .next s) ∧
    (s.panel.state = .charging →
      exec .showPicture s = .next { s with panel := { s.panel with showAfterCharge := true } } ∧
      exec .blankPicture s = .next { s with panel := { s.panel with showAfterCharge := false } }) ∧
    (s.panel.state = .blanked →
      exec .showPicture s = .next { s with panel := { s.panel with pending := .show } } ∧
      exec .blankPicture s = .next { s with panel := { s.panel with pending := .none } }) ∧
    (s.panel.state = .showing →
      exec .showPicture s = .next { s with panel := { s.panel with pending := .none } } ∧
      exec .blankPicture s = .next { s with panel := { s.panel with pending := .blank } }) ∧
    ((s.panel.state = .off ∨ s.panel.state = .stopping ∨ s.panel.state = .discharging) →
      exec .showPicture s = .next (withRefused s) ∧
      exec .blankPicture s = .next (withRefused s))

/-! ## Settings, interrupts and the registers -/

/-- The writes of SCAN_CONFIG, BLINK_A, BLINK_B and SUPPLY (R128, R129, R138, R156): the staged copy
alone while the scan runs, with the group's restart mark set; both copies while it is stopped, the group
restarting at once; and a change of the supply enable starts the monitor afresh. That the stopped sample
timer of a disabled monitor stands at 0 is the model's choice (assumption 32). -/
def Obligations.SettingWritesReachTheirCopies : Prop :=
  ∀ (s : State) (v : Byte), Ready s →
    ∀ scan : ScanConfig,
      scan = ⟨BitVec.ofNat 2 (v.toNat % 4), BitVec.ofNat 2 (v.toNat / 4 % 4), v.getLsbD 4⟩ →
    ∀ blink : BlinkSetting, blink = ⟨BitVec.ofNat 4 (v.toNat % 16), BitVec.ofNat 4 (v.toNat / 16)⟩ →
    (scanRunning s = true →
      exec (.scanConfig v) s = .next { s with scanner := { s.scanner with staged := scan } } ∧
      exec (.blinkWrite .a v) s = .next { s with compositor := { s.compositor with
        blinkA := { s.compositor.blinkA with staged := blink, restart := true } } } ∧
      exec (.blinkWrite .b v) s = .next { s with compositor := { s.compositor with
        blinkB := { s.compositor.blinkB with staged := blink, restart := true } } }) ∧
    (scanRunning s = false →
      exec (.scanConfig v) s =
        .next { s with scanner := { s.scanner with staged := scan, active := scan } } ∧
      exec (.blinkWrite .a v) s = .next { s with compositor := { s.compositor with
        blinkA := ⟨blink, blink, .on, 0, false⟩ } } ∧
      exec (.blinkWrite .b v) s = .next { s with compositor := { s.compositor with
        blinkB := ⟨blink, blink, .on, 0, false⟩ } }) ∧
    (v.getLsbD 0 = s.supply.enabled → exec (.supplyWrite v) s = .next s) ∧
    (v.getLsbD 0 ≠ s.supply.enabled →
      exec (.supplyWrite v) s = .next { s with supply :=
        ⟨v.getLsbD 0, .ok, none, 0, s.supply.millivolts⟩ })

/-- The writes of IRQ_STATUS and IRQ_ENABLE (R173, R174): a 1 clears a latched flag, a 0 leaves it, the
level flags disregard the write; a write of IRQ_ENABLE replaces the enables of its byte, of which the hi
byte keeps three. nIRQ is asserted exactly while a flag is set whose enable is set (R175), for the four
level flags as their owners give them (R31, R37, R98) and the seven latched flags (Table 9-3); the pin is
driven low exactly while it is asserted, and is released in reset (R176, R177). -/
def Obligations.InterruptFlagsAndTheInterruptLine : Prop :=
  ∀ (s : State) (v : Byte),
    (nIrqDrivenLow s = true ↔ inReset s = false ∧ nIrqAsserted s = true) ∧ (Ready s →
    exec (.irqStatusClear .lo v) s = .next { s with irq := { s.irq with
      pair := if v.getLsbD 4 then false else s.irq.pair
      panel := if v.getLsbD 5 then false else s.irq.panel
      supply := if v.getLsbD 6 then false else s.irq.supply
      access := if v.getLsbD 7 then false else s.irq.access } } ∧
    exec (.irqStatusClear .hi v) s = .next { s with irq := { s.irq with
      overrun := if v.getLsbD 0 then false else s.irq.overrun
      reject := if v.getLsbD 1 then false else s.irq.reject
      refused := if v.getLsbD 2 then false else s.irq.refused } } ∧
    exec (.irqEnable .lo v) s = .next { s with irq := { s.irq with enableLo := v } } ∧
    exec (.irqEnable .hi v) s =
      .next { s with irq := { s.irq with enableHi := BitVec.ofNat 3 (v.toNat % 8) } } ∧
    (nIrqAsserted s = true ↔
      (s.irq.enableLo.getLsbD 0 = true ∧ s.ring ≠ []) ∨
      (s.irq.enableLo.getLsbD 1 = true ∧ s.spaceThreshold.toNat ≤ 16 - s.queue.length) ∨
      (s.irq.enableLo.getLsbD 2 = true ∧
        (s.engine.state = .halted ∨ s.engine.state = .faultPending)) ∨
      (s.irq.enableLo.getLsbD 3 = true ∧ s.engine.state = .idle) ∨
      (s.irq.enableLo.getLsbD 4 = true ∧ s.irq.pair = true) ∨
      (s.irq.enableLo.getLsbD 5 = true ∧ s.irq.panel = true) ∨
      (s.irq.enableLo.getLsbD 6 = true ∧ s.irq.supply = true) ∨
      (s.irq.enableLo.getLsbD 7 = true ∧ s.irq.access = true) ∨
      (s.irq.enableHi.getLsbD 0 = true ∧ s.irq.overrun = true) ∨
      (s.irq.enableHi.getLsbD 1 = true ∧ s.irq.reject = true) ∨
      (s.irq.enableHi.getLsbD 2 = true ∧ s.irq.refused = true)))

/-- PORT_DATA reads and writes (R168 to R171): at a mapped pointer a byte grant is requested, at an
unmapped one a read returns 00h, a write is dropped and ACCESS is latched; after either the pointer has
advanced by the step modulo 65536. While an engine request is owed its grant from the data-port grant
before, the row latch ahead of it ends first (R9). That the value of a read is absent until its grant has
ended, and the form of the engine's turn, are the model's (assumptions 18 and 30). -/
def Obligations.PortDataAccessesMemoryAndAdvances : Prop :=
  ∀ (s : State) (v : Byte), Ready s → ArbiterBusyInv s → ServiceInv s →
    ∀ next : Word, next = BitVec.ofNat 16
      ((s.port.pointer.toNat + (match s.port.step with | .one => 1 | .eight => 8)) % 65536) →
    (s.port.pointer.toNat ≤ 0x0E7F → s.arbiter.engineOwed = false →
      exec .portDataRead s = .next { s with
        port := { s.port with pointer := next, readValue := none }
        arbiter := portAsks (.read s.port.pointer.toNat) s.arbiter } ∧
      exec (.portDataWrite v) s = .next { s with
        port := { s.port with pointer := next }
        arbiter := portAsks (.write s.port.pointer.toNat v) s.arbiter }) ∧
    (s.port.pointer.toNat ≤ 0x0E7F → s.arbiter.engineOwed = true →
      ∃ t, exec .rowLatch s = .next t ∧
        (s.arbiter.rowRequest = none → t.arbiter.engineOwed = false ∧
          ∃ e, t.arbiter.grant = some (.engine e)) ∧
        exec .portDataRead s = exec .portDataRead t ∧
        exec (.portDataWrite v) s = exec (.portDataWrite v) t) ∧
    (0x0E80 ≤ s.port.pointer.toNat →
      exec .portDataRead s = .next { s with
        port := { s.port with pointer := next, readValue := some 0#8 }
        irq := { s.irq with access := true } } ∧
      exec (.portDataWrite v) s = .next { s with
        port := { s.port with pointer := next }
        irq := { s.irq with access := true } })

/-- A read of FRAME_COUNT lo (R124): the low byte is returned, the high byte is held, and a read of
FRAME_COUNT hi returns the byte held; together they are the count at the lo read. -/
def Obligations.FrameCountReadsAreOneCount : Prop :=
  ∀ s : State, Ready s → ∃ t lo hi,
    exec .frameCountLoRead s = .next t ∧
    t = { s with port := { s.port with readValue := some lo, frameHold := hi } } ∧
    readRegister t 0x1F#6 = hi ∧ s.scanner.frameCount.toNat = 256 * hi.toNat + lo.toNat

/-- REGISTER_WRITE (R24, R134, R149, R154, R163, R167): the register at the offset takes the bits of its
width, byte by byte in a pair; every read-only and unassigned offset disregards the write. -/
def Obligations.RegisterWritesReplaceOneRegister : Prop :=
  ∀ (s : State) (v : Byte), Ready s →
    (∀ (g : Staging) (o : BitVec 6),
      ((o = 0x09#6 ∧ g = { s.staging with tag := v }) ∨
        (o = 0x0A#6 ∧ g = { s.staging with flags := BitVec.ofNat 7 (v.toNat % 128) }) ∨
        (o = 0x0B#6 ∧ g = { s.staging with a := hiByte s.staging.a ++ v }) ∨
        (o = 0x0C#6 ∧ g = { s.staging with a := v ++ loByte s.staging.a }) ∨
        (o = 0x0D#6 ∧ g = { s.staging with b := hiByte s.staging.b ++ v }) ∨
        (o = 0x0E#6 ∧ g = { s.staging with b := v ++ loByte s.staging.b }) ∨
        (o = 0x0F#6 ∧ g = { s.staging with c := hiByte s.staging.c ++ v }) ∨
        (o = 0x10#6 ∧ g = { s.staging with c := v ++ loByte s.staging.c }) ∨
        (o = 0x11#6 ∧ g = { s.staging with d := v }) ∨
        (o = 0x12#6 ∧ g = { s.staging with e := v })) →
      exec (.registerWrite o v) s = .next { s with staging := g }) ∧
    exec (.registerWrite 0x25#6 v) s =
      .next { s with panel := { s.panel with chargeTime := BitVec.ofNat 2 (v.toNat % 4) } } ∧
    exec (.registerWrite 0x26#6 v) s =
      .next { s with panel := { s.panel with contrastTarget := BitVec.ofNat 5 (v.toNat % 32) } } ∧
    exec (.registerWrite 0x29#6 v) s =
      .next { s with port := { s.port with pointer := hiByte s.port.pointer ++ v } } ∧
    exec (.registerWrite 0x2A#6 v) s =
      .next { s with port := { s.port with pointer := v ++ loByte s.port.pointer } } ∧
    exec (.registerWrite 0x2C#6 v) s =
      .next { s with port := { s.port with step := if v.getLsbD 0 then .eight else .one } } ∧
    exec (.registerWrite 0x31#6 v) s =
      .next { s with port := { s.port with
        zoneIndex := Fin.ofNat 8 (v.toNat % 8), zoneActive := v.getLsbD 3 } } ∧
    ∀ o : BitVec 6,
      (o.toNat ≤ 0x05 ∨ (0x13 ≤ o.toNat ∧ o.toNat ≤ 0x1A) ∨ (0x1C ≤ o.toNat ∧ o.toNat ≤ 0x1F) ∨
        o.toNat = 0x22 ∨ o.toNat = 0x24 ∨ o.toNat = 0x27 ∨ 0x32 ≤ o.toNat) →
      exec (.registerWrite o v) s = .next s

/-! ## Memory and the arbiter -/

/-- One byte of memory changes at a write, and a write at an unmapped address changes none (R1, R6). -/
def Obligations.AWriteChangesOneMappedByte : Prop :=
  ∀ (s : State) (a b : Nat) (v : Byte) (t : State), t = { s with memory := memoryWrite s.memory a v } →
    (a < 0x0E80 → byteAt t a = v) ∧ (a ≠ b → byteAt t b = byteAt s b) ∧ (0x0E80 ≤ a → t = s)

/-- With no grant in progress the arbiter grants the waiting request of highest priority, and a grant in
progress is not interrupted (R9, R10). An engine request that waits while a data-port grant begins is
owed the grant before the data port's next, in the model's form (R9, assumption 30). -/
def Obligations.TheArbiterServesTheHighestPriority : Prop :=
  ∀ s : State,
    (s.arbiter.grant.isSome = true → arbitrate s = s) ∧
    (s.arbiter.grant = none →
      (∀ r, s.arbiter.rowRequest = some r → arbitrate s = { s with arbiter := { s.arbiter with
        grant := some (.row r s.pages.shown), rowRequest := none } }) ∧
      (∀ p, s.arbiter.rowRequest = none → s.arbiter.portRequest = some p →
        arbitrate s = { s with arbiter := { s.arbiter with
          grant := some (.port p)
          portRequest := none
          engineOwed := s.arbiter.engineRequest.isSome } }) ∧
      (∀ e, s.arbiter.rowRequest = none → s.arbiter.portRequest = none →
        s.arbiter.engineRequest = some e →
        arbitrate s = { s with arbiter := { s.arbiter with
          grant := some (.engine e), engineRequest := none, engineOwed := false } }) ∧
      (s.arbiter.rowRequest = none → s.arbiter.portRequest = none →
        s.arbiter.engineRequest = none → arbitrate s = s))

/-- ROW_LATCH (R10, R123, R126): the row's dots are fixed from its eight bytes, which drive nothing when
the scan has stopped since the request; memory is then free for the next request. That the dots are fixed
also where the read ends only after the next row or frame has begun is the model's choice
(assumption 31). -/
def Obligations.ARowLatchFixesTheDotsOfItsRow : Prop :=
  ∀ (s : State) (r : RowRequest) (p : Fin 4), s.arbiter.grant = some (.row r p) → Settled s →
    (r.discarded = false →
      exec .rowLatch s = .next (arbitrate { s with
        arbiter := { s.arbiter with grant := none }
        compositor := { s.compositor with
          rowDots := some (composeRow s r.row (rowBytes s p r.row)) } })) ∧
    (r.discarded = true →
      exec .rowLatch s = .next (arbitrate { s with
        arbiter := { s.arbiter with grant := none } }))

/-- DATA_PORT_GRANT (R11, R168, R169): the byte read is returned as it stands, or the byte written is
stored whatever its page. -/
def Obligations.ADataPortGrantReadsOrStoresOneByte : Prop :=
  ∀ (s : State) (a : Nat) (v : Byte), Settled s →
    (s.arbiter.grant = some (.port (.read a)) →
      exec .dataPortGrant s = .next (arbitrate { s with
        arbiter := { s.arbiter with grant := none }
        port := { s.port with readValue := some (byteAt s a) } })) ∧
    (s.arbiter.grant = some (.port (.write a v)) →
      exec .dataPortGrant s = .next (arbitrate { s with
        arbiter := { s.arbiter with grant := none }
        memory := memoryWrite s.memory a v }))

/-- COPY_SOURCE_READ (R16, R66, R68): the value read is held and the write of the same byte is
requested, at B + k or with DST_FIXED at B, also for a command that has been dropped. That the request
is raised in the event that ends the read is the model's choice (assumption 34). -/
def Obligations.ACopyReadRequestsTheWriteOfItsByte : Prop :=
  ∀ (s : State) (a b : Nat), Settled s → EngineAccessInv s →
    (s.arbiter.grant = some (.engine ⟨.copyRead a b, false⟩) →
      ∀ c, s.engine.current = some c → c.entry.kind = .copy →
      exec .copySourceRead s = .next (arbitrate { s with
        engine := { s.engine with current := some { c with copyByte := some (byteAt s a) } }
        arbiter := { s.arbiter with
          grant := none
          engineRequest := some
            ⟨.copyWrite (if c.entry.flags.getLsbD 3 then c.entry.b.toNat
              else c.entry.b.toNat + c.progress) (byteAt s a), false⟩ } })) ∧
    (s.arbiter.grant = some (.engine ⟨.copyRead a b, true⟩) →
      exec .copySourceRead s = .next (arbitrate { s with
        arbiter := { s.arbiter with
          grant := none
          engineRequest := some ⟨.copyWrite b (byteAt s a), true⟩ } }))

/-- COPY_DESTINATION_WRITE (R66, R68, R72): the byte is stored and progress rises; the COPY ends ABORTED
where an abort was noted, ends DONE after its last byte, and otherwise requests the next source byte, at
A + k or with SRC_FIXED at A, for the destination B + k or with DST_FIXED B. After the write of a
dropped command the engine requests what its present command needs, which is the model's reading (R12,
R16, assumption 15). That it is raised in the event that ends the grant is the model's choice
(assumption 34). -/
def Obligations.ACopyWriteStoresOneByteAndGoesOn : Prop :=
  ∀ (s : State) (b : Nat) (v : Byte), Settled s → EngineAccessInv s →
    (s.arbiter.grant = some (.engine ⟨.copyWrite b v, false⟩) →
      ∀ c, s.engine.current = some c → c.entry.kind = .copy →
      ∀ u, u = { s with
        memory := memoryWrite s.memory b v
        arbiter := { s.arbiter with grant := none }
        engine := { s.engine with
          current := some { c with progress := c.progress + 1, copyByte := none } } } →
      (c.abortNoted = true →
        exec .copyDestinationWrite s = .next (arbitrate (endsNormally true
          ⟨c.entry.tag, .copy, .aborted, c.progress + 1, false, c.heldOnce⟩ u))) ∧
      (c.abortNoted = false → c.entry.c.toNat ≤ c.progress + 1 →
        exec .copyDestinationWrite s = .next (arbitrate (endsNormally (c.entry.flags.getLsbD 0)
          ⟨c.entry.tag, .copy, .done, c.progress + 1, false, c.heldOnce⟩ u))) ∧
      (c.abortNoted = false → c.progress + 1 < c.entry.c.toNat →
        exec .copyDestinationWrite s = .next (arbitrate { u with
          arbiter := { u.arbiter with
            engineRequest := some
              ⟨.copyRead
                (if c.entry.flags.getLsbD 2 then c.entry.a.toNat
                  else c.entry.a.toNat + (c.progress + 1))
                (if c.entry.flags.getLsbD 3 then c.entry.b.toNat
                  else c.entry.b.toNat + (c.progress + 1)), false⟩ } }))) ∧
    (s.arbiter.grant = some (.engine ⟨.copyWrite b v, true⟩) →
      exec .copyDestinationWrite s = .next (arbitrate { s with
        memory := memoryWrite s.memory b v
        arbiter := { s.arbiter with grant := none, engineRequest := nextRequest s } }))

/-- STAMP_SOURCE_READ (R75, R77, R79): the byte joins the row buffer; the next source byte of row i is
requested, byte m at A + i × stride + m, and after the last one, at offset (Wu - 1) div 8, the write
phase begins with the first byte the row touches, at 0C00h + 160 × p + 8 × (E + i) + D div 8. The page
field p is at most 3, as the checks of the STAMP have found. After the read of a dropped command the
engine requests what its present command needs, which is the model's reading (R12, R16, assumption 15).
That a request is raised in the event that ends the grant is the model's choice (assumption 34). -/
def Obligations.AStampReadFillsTheRowBuffer : Prop :=
  ∀ (s : State) (a : Nat), Settled s → EngineAccessInv s →
    (s.arbiter.grant = some (.engine ⟨.stampRead a, false⟩) →
      ∀ c, s.engine.current = some c → c.entry.kind = .stamp →
      ∀ width, width = min (loByte c.entry.c).toNat (64 - c.entry.d.toNat) →
      ∀ buffer, buffer = c.rowBuffer ++ [byteAt s a] →
      (c.byteIndex < (width - 1) / 8 →
        exec .stampSourceRead s = .next (arbitrate { s with
          engine := { s.engine with
            current := some { c with rowBuffer := buffer, phase := .reading, byteIndex := c.byteIndex + 1 } }
          arbiter := { s.arbiter with
            grant := none
            engineRequest := some ⟨.stampRead (c.entry.a.toNat +
              c.progress * (loByte c.entry.b).toNat + (c.byteIndex + 1)), false⟩ } })) ∧
      ((width - 1) / 8 ≤ c.byteIndex → (hiByte c.entry.b).toNat ≤ 3 →
        exec .stampSourceRead s = .next (arbitrate { s with
          engine := { s.engine with
            current := some { c with rowBuffer := buffer, phase := .writing, byteIndex := 0 } }
          arbiter := { s.arbiter with
            grant := none
            engineRequest := some ⟨.stampModify
              (0x0C00 + 160 * (hiByte c.entry.b).toNat + 8 * (c.entry.e.toNat + c.progress) +
                c.entry.d.toNat / 8)
              (c.entry.stampMask 0) (c.entry.stampBits buffer 0) c.entry.operator, false⟩ } }))) ∧
    (s.arbiter.grant = some (.engine ⟨.stampRead a, true⟩) →
      exec .stampSourceRead s = .next (arbitrate { s with
        arbiter := { s.arbiter with grant := none, engineRequest := nextRequest s } }))

/-- STAMP_READ_MODIFY_WRITE (R75, R77 to R81): the byte is combined and written back. Row i touches the
bytes at offsets D div 8 to (D + Wu - 1) div 8, the n-th of them at 0C00h + 160 × p + 8 × (E + i) + D
div 8 + n, and the next one is requested; the page field p is at most 3, as the checks of the STAMP have
found. After the last touched byte of the row progress rises, and the STAMP ends ABORTED where an abort
was noted, ends DONE after its last unclipped row, and otherwise begins the next row, at A + i × stride.
After the write of a dropped command the engine requests what its present command needs, which is the
model's reading (R12, R16, assumption 15). That a request is raised in the event that ends the grant is
the model's choice (assumption 34). -/
def Obligations.AStampWriteCombinesOneByteAndGoesOn : Prop :=
  ∀ (s : State) (b : Nat) (mask bits : Byte) (operator : StampOperator),
    Settled s → EngineAccessInv s →
    ∀ u : State, u = { s with
      memory := memoryWrite s.memory b (operator.combine (byteAt s b) mask bits)
      arbiter := { s.arbiter with grant := none } } →
    (s.arbiter.grant = some (.engine ⟨.stampModify b mask bits operator, false⟩) →
      ∀ c, s.engine.current = some c → c.entry.kind = .stamp →
      ∀ touched, touched = (c.entry.d.toNat +
        min (loByte c.entry.c).toNat (64 - c.entry.d.toNat) - 1) / 8 - c.entry.d.toNat / 8 + 1 →
      ∀ height, height = min (hiByte c.entry.c).toNat (20 - c.entry.e.toNat) →
      ∀ e, e = { c with
        progress := c.progress + 1, phase := .reading, byteIndex := 0, rowBuffer := [] } →
      (c.byteIndex + 1 < touched → (hiByte c.entry.b).toNat ≤ 3 →
        exec .stampReadModifyWrite s = .next (arbitrate { u with
          engine := { s.engine with current := some { c with byteIndex := c.byteIndex + 1 } }
          arbiter := { u.arbiter with
            engineRequest := some ⟨.stampModify
              (0x0C00 + 160 * (hiByte c.entry.b).toNat + 8 * (c.entry.e.toNat + c.progress) +
                c.entry.d.toNat / 8 + (c.byteIndex + 1))
              (c.entry.stampMask (c.byteIndex + 1))
              (c.entry.stampBits c.rowBuffer (c.byteIndex + 1)) c.entry.operator, false⟩ } })) ∧
      (touched ≤ c.byteIndex + 1 → c.abortNoted = true →
        exec .stampReadModifyWrite s = .next (arbitrate (endsNormally true
          ⟨c.entry.tag, .stamp, .aborted, c.progress + 1, c.clipped, c.heldOnce⟩
          { u with engine := { s.engine with current := some e } }))) ∧
      (touched ≤ c.byteIndex + 1 → c.abortNoted = false → height ≤ c.progress + 1 →
        exec .stampReadModifyWrite s = .next (arbitrate (endsNormally (c.entry.flags.getLsbD 0)
          ⟨c.entry.tag, .stamp, .done, c.progress + 1, c.clipped, c.heldOnce⟩
          { u with engine := { s.engine with current := some e } }))) ∧
      (touched ≤ c.byteIndex + 1 → c.abortNoted = false → c.progress + 1 < height →
        exec .stampReadModifyWrite s = .next (arbitrate { u with
          engine := { s.engine with current := some e }
          arbiter := { u.arbiter with
            engineRequest := some
              ⟨.stampRead (c.entry.a.toNat +
                (c.progress + 1) * (loByte c.entry.b).toNat), false⟩ } }))) ∧
    (s.arbiter.grant = some (.engine ⟨.stampModify b mask bits operator, true⟩) →
      exec .stampReadModifyWrite s = .next (arbitrate { u with
        arbiter := { u.arbiter with engineRequest := nextRequest s } }))

/-- The bits of a STAMP (R77, R78): in the byte at offset `m` of a page row, the bits of the columns from
D to D + Wu - 1 become what the operator makes of the old dot and the source bit, and the other bits
keep their value. The operator is bits 5 and 4 of the entry's flags: 0 REPLACE, 1 SET, 2 CLEAR, 3 TOGGLE
(R181, Table 10-6). -/
def Obligations.AStampChangesOnlyItsColumns : Prop :=
  ∀ (e : Entry) (old : Byte) (buffer : List Byte) (n i : Nat), i < 8 →
    let column := 8 * (e.d.toNat / 8 + n) + (7 - i)
    let j := column - e.d.toNat
    let source := (buffer.getD (j / 8) 0#8).getLsbD (7 - j % 8)
    let dot := old.getLsbD i
    (e.operator.combine old (e.stampMask n) (e.stampBits buffer n)).getLsbD i =
      if e.d.toNat ≤ column ∧ column < e.d.toNat + min (loByte e.c).toNat (64 - e.d.toNat) then
        match e.flags.getLsbD 5, e.flags.getLsbD 4 with
        | false, false => source
        | false, true => dot || source
        | true, false => dot && !source
        | true, true => dot ^^ source
      else dot

/-- The checks of COPY and STAMP pass exactly the entries whose fields are in range and whose every byte
is mapped, the source of a STAMP over its full width and height (R39, R66, R67, R73, R76), and a STAMP
then writes only its page (R77). -/
def Obligations.ChecksPassOnlyMappedRanges : Prop :=
  ∀ e : Entry,
    (e.checkCopy = none ↔
      1 ≤ e.c.toNat ∧ e.c.toNat ≤ 4096 ∧
        ∀ k, k < e.c.toNat →
          (if e.flags.getLsbD 2 then e.a.toNat else e.a.toNat + k) < 0x0E80 ∧
          (if e.flags.getLsbD 3 then e.b.toNat else e.b.toNat + k) < 0x0E80) ∧
    (e.checkStamp = none ↔
      (hiByte e.b).toNat ≤ 3 ∧ (1 ≤ (loByte e.c).toNat ∧ (loByte e.c).toNat ≤ 64) ∧
        (1 ≤ (hiByte e.c).toNat ∧ (hiByte e.c).toNat ≤ 20) ∧ e.d.toNat ≤ 63 ∧ e.e.toNat ≤ 19 ∧
        ∀ i m, i < (hiByte e.c).toNat → 8 * m < (loByte e.c).toNat →
          e.a.toNat + i * (loByte e.b).toNat + m < 0x0E80) ∧
    (e.checkStamp = none →
      ∀ i n, i < min (hiByte e.c).toNat (20 - e.e.toNat) →
        n ≤ (e.d.toNat + min (loByte e.c).toNat (64 - e.d.toNat) - 1) / 8 - e.d.toNat / 8 →
        e.stampDestination i n =
          0x0C00 + 160 * (hiByte e.b).toNat + 8 * (e.e.toNat + i) + e.d.toNat / 8 + n ∧
        ∃ p, pageOf (e.stampDestination i n) = some p ∧ p.val = (hiByte e.b).toNat)

/-- The pages a COPY touches are the pages of the addresses it writes, and a STAMP touches the page it
names (R3, R42). -/
def Obligations.TouchedPagesAreThoseWritten : Prop :=
  ∀ (e : Entry) (p : Fin 4),
    (e.kind = .copy → e.checkCopy = none →
      (e.touches p = true ↔
        ∃ k a, k < e.c.toNat ∧ a = (if e.flags.getLsbD 3 then e.b.toNat else e.b.toNat + k) ∧
          0x0C00 + 160 * p.val ≤ a ∧ a < 0x0C00 + 160 * p.val + 160)) ∧
    (e.kind = .stamp → e.checkStamp = none → (e.touches p = true ↔ p.val = (hiByte e.b).toNat))

/-! ## Scanning and composition -/

/-- Each dot of a latched row (R140, R141): the page bit of the dot in the byte of its row and column,
inverted by REVERSE, and then by the effect of the enabled active zone of lowest index that covers it, in
the phase of the zone's group. A zone covers the dot where it is enabled and the dot lies within its
bounds, both inclusive (R132). Page, zones and blink groups stay as they are. -/
def Obligations.EachDotFollowsItsLowestZone : Prop :=
  ∀ (s : State) (r : Nat) (p : Fin 4), s.arbiter.grant = some (.row ⟨r, false⟩ p) → Settled s →
    ∃ t dots, exec .rowLatch s = .next t ∧ t.memory = s.memory ∧
      t.compositor = { s.compositor with rowDots := some dots } ∧
      ∀ c, c < 64 → ∀ base : Bool,
        base = ((byteAt s (0x0C00 + 160 * p.val + 8 * r + c / 8)).getLsbD (7 - c % 8) ^^
          s.scanner.active.reverse) →
        ∀ covered : Fin 8 → Prop,
        (∀ i z, z = s.compositor.activeZones.get i →
          (covered i ↔ z.enable = true ∧ z.firstColumn.toNat ≤ c ∧ c ≤ z.lastColumn.toNat ∧
            z.firstRow.toNat ≤ r ∧ r ≤ z.lastRow.toNat)) →
        ((∀ i, ¬ covered i) → dots.getLsbD c = base) ∧
        ∀ i z, z = s.compositor.activeZones.get i → covered i → (∀ j, j < i → ¬ covered j) →
          ∀ phase : BlinkPhase, phase = (match z.group with
            | .a => s.compositor.blinkA.phase
            | .b => s.compositor.blinkB.phase) →
          dots.getLsbD c =
            match z.effect, phase with
            | .invert, _ => !base
            | .blank, _ => false
            | .blinkOff, .on => base
            | .blinkOff, .off => false
            | .blinkInvert, .on => base
            | .blinkInvert, .off => !base

/-- ROW_CHANGE below row N - 1 and FRAME_BOUNDARY at row N - 1 of a positive frame (R121, R126). A scan
event that cannot come about changes nothing, which is the model's choice: while the scan is stopped
(R118), at another row, or in a frame of the other polarity (assumption 2). How much of the common period
has gone by is not asked (assumption 5). Before its latch a row has no dots (assumption 14). The row's
request replaces a row request still waiting (assumption 11). -/
def Obligations.RowsAndPositiveFramesEnd : Prop :=
  ∀ s : State, Settled s →
    (scanRunning s = true → s.scanner.row + 1 < activeCommons s →
      exec .rowChange s = .next { s with
        scanner := { s.scanner with row := s.scanner.row + 1, tick := 0 }
        compositor := { s.compositor with rowDots := none }
        arbiter := rowAsks (s.scanner.row + 1) s.pages.shown s.arbiter }) ∧
    (scanRunning s = true → s.scanner.polarity = .positive → s.scanner.row + 1 = activeCommons s →
      exec .frameBoundary s = .next { s with
        scanner := { s.scanner with
          frameCount := s.scanner.frameCount + 1#16, polarity := .negative, row := 0, tick := 0 }
        compositor := { s.compositor with rowDots := none }
        arbiter := rowAsks 0 s.pages.shown s.arbiter }) ∧
    (scanRunning s = false →
      exec .rowChange s = .next s ∧ exec .frameBoundary s = .next s ∧
        exec .pairBoundary s = .next s) ∧
    (activeCommons s ≤ s.scanner.row + 1 → exec .rowChange s = .next s) ∧
    ((s.scanner.row + 1 ≠ activeCommons s ∨ s.scanner.polarity = .negative) →
      exec .frameBoundary s = .next s) ∧
    ((s.scanner.row + 1 ≠ activeCommons s ∨ s.scanner.polarity = .positive) →
      exec .pairBoundary s = .next s)

/-- PAIR_BOUNDARY while the scan goes on and the engine neither waits nor is held over a switch (R107,
R122, R128, R150, R155): FRAME_COUNT, PAIR, the staged settings, the pending page, the pending panel
request and the contrast step, and then the latch of row 0, before which that row has no dots
(assumption 14). How much of the common period of row N - 1 has gone by is not asked (assumption 5). The
row's request replaces a row request still waiting (assumption 11). -/
def Obligations.APairBoundaryActivatesSettings : Prop :=
  ∀ s : State, Settled s →
    (s.panel.state = .blanked ∨ s.panel.state = .showing) → s.scanner.polarity = .negative →
    s.scanner.row + 1 = activeCommons s →
    s.engine.state ≠ .waiting → (s.engine.state = .held → s.pages.pending = none) →
    ∀ pages : Presentation, pages = (match s.pages.pending with | some q => ⟨q, none⟩ | none => s.pages) →
    exec .pairBoundary s = .next { s with
      scanner := { s.scanner with
        frameCount := s.scanner.frameCount + 1#16, polarity := .positive, row := 0, tick := 0
        active := s.scanner.staged }
      compositor := { s.compositor with
        activeZones := s.compositor.stagedZones
        blinkA := s.compositor.blinkA.atPairBoundary
        blinkB := s.compositor.blinkB.atPairBoundary
        rowDots := none }
      pages := pages
      panel := { s.panel with
        state := (match s.panel.state, s.panel.pending with
          | .blanked, .show => .showing
          | .showing, .blank => .blanked
          | x, _ => x)
        pending := .none
        contrastActual :=
          if s.panel.contrastActual.toNat < s.panel.contrastTarget.toNat then
            s.panel.contrastActual + 1#5
          else if s.panel.contrastTarget.toNat < s.panel.contrastActual.toNat then
            s.panel.contrastActual - 1#5
          else s.panel.contrastActual }
      irq := { s.irq with
        pair := true
        panel := (match s.panel.state, s.panel.pending with
          | .blanked, .show | .showing, .blank => true
          | _, _ => s.irq.panel) }
      arbiter := rowAsks 0 pages.shown s.arbiter }

/-- PAIR_BOUNDARY in STOPPING with the engine neither waiting nor held over a switch (R108, R123, R151,
R152): the boundary is taken whole and the scan stops in the same event, the panel entering DISCHARGING;
no row is requested, and what a row latch already requested returns is discarded. That a row-read grant
in progress is discarded too is the model's reading (assumption 13), and the position of a stopped scan is
its choice (assumption 14). -/
def Obligations.APairBoundaryEndsStopping : Prop :=
  ∀ s : State, Settled s → s.panel.state = .stopping → s.scanner.polarity = .negative →
    s.scanner.row + 1 = activeCommons s →
    s.engine.state ≠ .waiting → (s.engine.state = .held → s.pages.pending = none) →
    exec .pairBoundary s = .next { s with
      scanner := { s.scanner with
        frameCount := s.scanner.frameCount + 1#16, polarity := .positive, row := 0, tick := 0
        active := s.scanner.staged }
      compositor := { s.compositor with
        activeZones := s.compositor.stagedZones
        blinkA := s.compositor.blinkA.atPairBoundary
        blinkB := s.compositor.blinkB.atPairBoundary
        rowDots := none }
      pages := (match s.pages.pending with | some q => ⟨q, none⟩ | none => s.pages)
      panel := { s.panel with
        state := .discharging
        pending := .none
        showAfterCharge := false
        chargeTimer := none
        dischargeTimer := some 1024
        contrastActual := 0#5 }
      irq := { s.irq with pair := true, panel := true }
      arbiter := s.arbiter.discardRow }

/-- Each blink group at a pair boundary (R137): it takes its staged setting, and then restarts where its
mark is set, and otherwise advances, changing its phase when the count of the phase is reached. -/
def Obligations.BlinkGroupsAdvanceAtPairBoundaries : Prop :=
  ∀ s : State, Settled s → scanRunning s = true → s.scanner.polarity = .negative →
    s.scanner.row + 1 = activeCommons s →
    ∃ t, exec .pairBoundary s = .next t ∧
      ∀ b b' : Blink, ((b = s.compositor.blinkA ∧ b' = t.compositor.blinkA) ∨
          (b = s.compositor.blinkB ∧ b' = t.compositor.blinkB)) →
        b'.staged = b.staged ∧ b'.active = b.staged ∧ b'.restart = false ∧
        (b.restart = true → b'.phase = .on ∧ b'.position = 0) ∧
        (b.restart = false → b.phase = .on →
          (b.position + 1 = b.staged.onLessOne.toNat + 1 → b'.phase = .off ∧ b'.position = 0) ∧
          (b.position + 1 ≠ b.staged.onLessOne.toNat + 1 →
            b'.phase = .on ∧ b'.position = b.position + 1)) ∧
        (b.restart = false → b.phase = .off →
          (b.position + 1 = b.staged.offLessOne.toNat + 1 → b'.phase = .on ∧ b'.position = 0) ∧
          (b.position + 1 ≠ b.staged.offLessOne.toNat + 1 →
            b'.phase = .off ∧ b'.position = b.position + 1))

/-- A WAITING engine at a pair boundary (R54, R55, R57): a WAIT counts the boundary and is DONE at its D,
or NO_SCAN where the scan stops first; a WAIT_SHOWN PRESENT is DONE at its switch. The rest of the part
takes the boundary as with an IDLE engine. -/
def Obligations.AWaitingEngineAtAPairBoundary : Prop :=
  ∀ (s : State) (c : Current), s.engine.current = some c → s.engine.state = .waiting → Settled s →
    scanRunning s = true → s.scanner.polarity = .negative → s.scanner.row + 1 = activeCommons s →
    ∀ u, exec .pairBoundary { s with engine := Engine.reset } = .next u →
    (c.entry.kind = .wait → ∀ v, v = { u with engine := { s.engine with
        current := some { c with progress := c.progress + 1 } } } →
      (c.entry.d.toNat ≤ c.progress + 1 →
        exec .pairBoundary s = .next (endsNormally (c.entry.flags.getLsbD 0)
          ⟨c.entry.tag, .wait, .done, c.progress + 1, false, false⟩ v)) ∧
      (c.progress + 1 < c.entry.d.toNat → s.panel.state = .stopping →
        exec .pairBoundary s = .next (endsNormally (c.entry.flags.getLsbD 0)
          ⟨c.entry.tag, .wait, .noScan, c.progress + 1, false, false⟩ v)) ∧
      (c.progress + 1 < c.entry.d.toNat → s.panel.state ≠ .stopping →
        exec .pairBoundary s = .next v)) ∧
    (c.entry.kind = .present → s.pages.pending = some c.entry.presentPage →
      exec .pairBoundary s = .next (endsNormally (c.entry.flags.getLsbD 0)
        ⟨c.entry.tag, .present, .done, 0, false, c.heldOnce⟩ { u with engine := s.engine }))

/-- A HELD engine at a switch while the scan goes on (R45, R46): a held COPY or STAMP begins where it does
not touch the new shown page, and faults SHOWN_PAGE where it does; a held PRESENT makes its page
pending. The rest of the part takes the boundary as with an IDLE engine. That the first request of the
held command is raised before the latch of row 0 is the model's reading of the order of a pair boundary
(R122, assumption 28), as is that the row's request replaces a row request still waiting
(assumption 11); that it is raised in the event of the boundary is the model's choice (assumption 34). -/
def Obligations.AHeldEngineAtASwitch : Prop :=
  ∀ (s : State) (c : Current), s.engine.current = some c → s.engine.state = .held → Inv s →
    Settled s → (s.panel.state = .blanked ∨ s.panel.state = .showing) →
    s.scanner.polarity = .negative → s.scanner.row + 1 = activeCommons s →
    ∀ q, s.pages.pending = some q →
    ∀ u, exec .pairBoundary { s with engine := Engine.reset } = .next u →
    (s.engine.holdReason = .page → c.entry.touches q = false →
      exec .pairBoundary s = .next { u with
        engine := engineBegins c s.engine
        arbiter := rowAsks 0 q (engineAsks (firstAccess c.entry) s.arbiter) }) ∧
    (s.engine.holdReason = .page → c.entry.touches q = true →
      exec .pairBoundary s = .next (endsInFault
        ⟨c.entry.tag, c.entry.kind, .shownPage, 0, false, c.heldOnce⟩
        { u with engine := s.engine })) ∧
    (s.engine.holdReason = .present → c.entry.flags.getLsbD 6 = false →
      exec .pairBoundary s = .next (endsNormally (c.entry.flags.getLsbD 0)
        ⟨c.entry.tag, .present, .done, 0, false, c.heldOnce⟩
        { u with engine := s.engine, pages := ⟨q, some c.entry.presentPage⟩ })) ∧
    (s.engine.holdReason = .present → c.entry.flags.getLsbD 6 = true →
      exec .pairBoundary s = .next { u with
        engine := { s.engine with state := .waiting, holdReason := .none }
        pages := ⟨q, some c.entry.presentPage⟩ })

/-- The engine at a stop of the scan, at the end of STOPPING or by emergency discharge (R45, R46, R55,
R108): a WAIT that the stop finds at no boundary ends NO_SCAN with its progress, a WAIT_SHOWN PRESENT is
DONE at the switch, a held COPY or STAMP begins, and a held PRESENT is shown at once. The rest of the
part takes the event as with an IDLE engine. A sample stops the scan at any level that is low by the
part's threshold (assumption 8). That a held command raises its first request in the event of the stop
is the model's choice (assumption 34). -/
def Obligations.TheEngineAtAStopOfTheScan : Prop :=
  ∀ (s : State) (c : Current), s.engine.current = some c → Inv s → Settled s →
    ∀ event : Instr, StopsTheScan event s → ∀ u, exec event { s with engine := Engine.reset } = .next u →
    (s.engine.state = .waiting → c.entry.kind = .wait → event ≠ .pairBoundary →
      exec event s = .next (endsNormally (c.entry.flags.getLsbD 0)
        ⟨c.entry.tag, .wait, .noScan, c.progress, false, false⟩ { u with engine := s.engine })) ∧
    (s.engine.state = .waiting → c.entry.kind = .present →
      exec event s = .next (endsNormally (c.entry.flags.getLsbD 0)
        ⟨c.entry.tag, .present, .done, 0, false, c.heldOnce⟩ { u with engine := s.engine })) ∧
    (s.engine.state = .held → s.engine.holdReason = .page →
      exec event s = .next { u with
        engine := engineBegins c s.engine
        arbiter := engineAsks (firstAccess c.entry) u.arbiter }) ∧
    (s.engine.state = .held → s.engine.holdReason = .present →
      exec event s = .next (endsNormally (c.entry.flags.getLsbD 0)
        ⟨c.entry.tag, .present, .done, 0, false, c.heldOnce⟩
        { u with engine := s.engine, pages := ⟨c.entry.presentPage, none⟩ }))

/-- What each panel state puts on the pins (R127, R144): the bias supply is off in OFF, off and drained in
DISCHARGING, charging in CHARGING and otherwise on; the lines are grounded in OFF and DISCHARGING and held
in CHARGING; while the scan runs the common of the present row alone is selected, in the polarity of the
frame, and each dot is driven off or on in that polarity, on exactly in SHOWING where the dot latched for
the row is on. Before the row's latch its dots are driven off, which is the model's choice
(assumption 14). -/
def Obligations.PanelStatesFixTheDrive : Prop :=
  ∀ (s : State) (r c : Nat),
    (s.panel.state = .off →
      biasDrive s = .off ∧ commonDrive s r = .grounded ∧ segmentDrive s c = .grounded) ∧
    (s.panel.state = .discharging →
      biasDrive s = .draining ∧ commonDrive s r = .grounded ∧ segmentDrive s c = .grounded) ∧
    (s.panel.state = .charging →
      biasDrive s = .charging s.panel.contrastActual ∧ commonDrive s r = .heldUnselected ∧
        segmentDrive s c = .heldOff) ∧
    (scanRunning s = true →
      biasDrive s = .on s.panel.contrastActual ∧
      (r = s.scanner.row → commonDrive s r = .selected s.scanner.polarity) ∧
      (r ≠ s.scanner.row → commonDrive s r = .unselected s.scanner.polarity) ∧
      ((s.panel.state = .blanked ∨ s.panel.state = .stopping) →
        segmentDrive s c = .dotOff s.scanner.polarity) ∧
      (s.panel.state = .showing → s.compositor.rowDots = none →
        segmentDrive s c = .dotOff s.scanner.polarity) ∧
      (s.panel.state = .showing → ∀ dots, s.compositor.rowDots = some dots →
        (dots.getLsbD c = true → segmentDrive s c = .dotOn s.scanner.polarity) ∧
        (dots.getLsbD c = false → segmentDrive s c = .dotOff s.scanner.polarity)))

/-! ## Timers and the supply -/

/-- CHARGE_EXPIRY and DISCHARGE_EXPIRY (R120, R149, R152): BLANKED with the scan started in a positive
frame at row 0 and show-after-charge become a pending SHOW, and OFF; in any other panel state nothing
expires, which the rule says of a charge expiry that another event has cut off (R149) and the model
takes of every other state (assumption 2). What the timer still holds is not asked (assumption 5). The
request of row 0 replaces a row request still waiting, which the last stop has marked to be discarded
(assumption 11). -/
def Obligations.ChargeAndDischargeExpire : Prop :=
  ∀ s : State, Settled s →
    (s.panel.state = .charging →
      exec .chargeExpiry s = .next { s with
        panel := { s.panel with
          state := .blanked
          chargeTimer := none
          showAfterCharge := false
          pending := if s.panel.showAfterCharge then .show else .none }
        irq := { s.irq with panel := true }
        scanner := { s.scanner with polarity := .positive, row := 0, tick := 0 }
        compositor := { s.compositor with rowDots := none }
        arbiter := rowAsks 0 s.pages.shown s.arbiter }) ∧
    (s.panel.state ≠ .charging → exec .chargeExpiry s = .next s) ∧
    (s.panel.state = .discharging →
      exec .dischargeExpiry s = .next { s with
        panel := { s.panel with state := .off, dischargeTimer := none }
        irq := { s.irq with panel := true } }) ∧
    (s.panel.state ≠ .discharging → exec .dischargeExpiry s = .next s)

/-- SAMPLE where it confirms no LOW, or confirms LOW with the panel OFF or DISCHARGING (R157 to R159,
R178): good at 2.50 V and above, low below 2.40 V, and one of the two between, by a threshold that lies
from 2.40 V to 2.50 V and is free (assumption 8); the state changes at the second sample in a row of a
level, and the level the command brings stands for later samples (assumption 9). With the monitor
disabled or the part in reset nothing is sampled (R156, assumption 2), and below 2.0 V the command is a
power-on reset (R177, assumptions 8 and 22). -/
def Obligations.ASampleMovesTheSupplyState : Prop :=
  ∀ (s : State) (millivolts : Nat), Settled s →
    (2400 ≤ lowThreshold ∧ lowThreshold ≤ 2500) ∧
    (2000 ≤ millivolts → inReset s = false → s.supply.enabled = true →
      ∃ level : SampleLevel,
        level = sampleLevelOf millivolts ∧ (level = .good ↔ lowThreshold ≤ millivolts) ∧
        (2500 ≤ millivolts → level = .good) ∧ (millivolts < 2400 → level = .low) ∧
        ∀ p, p = ({ s.supply with history := some level, timer := 0, millivolts := millivolts } :
            Supply) →
          (s.supply.state = .ok → ¬ (level = .low ∧ s.supply.history = some .low) →
            exec (.sample millivolts) s = .next { s with supply := p }) ∧
          (s.supply.state = .ok → level = .low → s.supply.history = some .low →
            (s.panel.state = .off ∨ s.panel.state = .discharging) →
            exec (.sample millivolts) s = .next { s with
              supply := { p with state := .low }, irq := { s.irq with supply := true } }) ∧
          (s.supply.state = .low → ¬ (level = .good ∧ s.supply.history = some .good) →
            exec (.sample millivolts) s = .next { s with supply := p }) ∧
          (s.supply.state = .low → level = .good → s.supply.history = some .good →
            exec (.sample millivolts) s = .next { s with supply := { p with state := .ok } })) ∧
    (2000 ≤ millivolts → (s.supply.enabled = false ∨ inReset s = true) →
      exec (.sample millivolts) s = .next s) ∧
    (millivolts < 2000 → exec (.sample millivolts) s = exec .powerOnReset s)

/-- The emergency discharge (R108, R123, R158), at any level that is low by the part's threshold
(assumption 8): a confirmed LOW puts a powered panel into DISCHARGING in the same event; a running scan
stops at no boundary, with FRAME_COUNT, PAIR, the staged settings and memory as they were, and a pending
page is switched. That a row-read grant in progress is discarded with the row requests is the model's
reading (assumption 13); the position of a stopped scan is its choice (assumption 14), as is that the level
of the sample stays in the supply input (assumption 9). Stated with the engine neither waiting nor held over a switch. -/
def Obligations.AConfirmedLowDischargesThePanel : Prop :=
  ∀ (s : State) (millivolts : Nat), Settled s → inReset s = false →
    2000 ≤ millivolts → sampleLevelOf millivolts = .low → s.supply.enabled = true →
    s.supply.state = .ok →
    s.supply.history = some .low →
    s.engine.state ≠ .waiting → (s.engine.state = .held → s.pages.pending = none) →
    ∀ u : State, u = { s with
      supply := { s.supply with
        state := .low, history := some .low, timer := 0, millivolts := millivolts }
      panel := { s.panel with
        state := .discharging
        pending := .none
        showAfterCharge := false
        chargeTimer := none
        dischargeTimer := some 1024
        contrastActual := 0#5 }
      irq := { s.irq with supply := true, panel := true } } →
    (s.panel.state = .charging → exec (.sample millivolts) s = .next u) ∧
    (scanRunning s = true →
      exec (.sample millivolts) s = .next { u with
        scanner := { s.scanner with polarity := .positive, row := 0, tick := 0 }
        compositor := { s.compositor with rowDots := none }
        pages := (match s.pages.pending with | some q => ⟨q, none⟩ | none => s.pages)
        arbiter := s.arbiter.discardRow })

/-! ## Resets -/

/-- DEVICE_RESET and RESET_RELEASE (R14, R15, R176): every block takes its device-reset value, in which
the part stays until nRESET rises; memory keeps every byte but one whose write the reset cuts, which
holds its old or its new value; the release starts the sample timer from 0. That a release with nRESET
high changes nothing is the model's choice (assumption 2), and so are a device reset in a part already in
reset and the rise of nRESET in a part that a power-on still holds (assumption 26), and that a reset leaves
the level of the supply input as it was (assumption 9). -/
def Obligations.DeviceResetAndItsRelease : Prop :=
  ∀ s : State,
    (∃ memory, exec .deviceReset s = .next { State.reset with
        memory := memory
        resetInputs := { s.resetInputs with nResetLow := true }
        supply := { State.reset.supply with millivolts := s.supply.millivolts }
        epoch := s.epoch
        freeCount := s.freeCount + 1
        pending := s.pending } ∧
      (memory = s.memory ∨
        (∃ a v, s.arbiter.grant = some (.port (.write a v)) ∧
          memory = memoryWrite s.memory a v) ∨
        (∃ a v d, s.arbiter.grant = some (.engine ⟨.copyWrite a v, d⟩) ∧
          memory = memoryWrite s.memory a v) ∨
        (∃ a m b o d, s.arbiter.grant = some (.engine ⟨.stampModify a m b o, d⟩) ∧
          memory = memoryWrite s.memory a (o.combine (byteAt s a) m b)))) ∧
    (s.resetInputs.nResetLow = true → exec .resetRelease s = .next { s with
      resetInputs := { s.resetInputs with nResetLow := false }
      supply := { s.supply with timer := 0 } }) ∧
    (s.resetInputs.nResetLow = false → exec .resetRelease s = .next s)

/-- POWER_ON_RESET, SUPPLY_RISE and POWER_ON_RELEASE (R14, R177): device reset with every byte of memory
arbitrary, the release interval of 1024 ticks from the rise, and the release. That memory then lists
nothing, each byte reading as its free value of this power-on (assumption 1), that an empty queue counts
the ticks (assumption 4), that in any other state of the power-on reset nothing happens (assumption 2), and
that the level kept for the supply input stays as it was (assumption 9), are the model's. -/
def Obligations.PowerOnHoldsThePartInReset : Prop :=
  ∀ s : State,
    exec .powerOnReset s = .next { State.reset with
      memory := []
      resetInputs := { s.resetInputs with powerOn := .supplyLow }
      supply := { State.reset.supply with millivolts := s.supply.millivolts }
      epoch := s.epoch + 1
      freeCount := s.freeCount + 1
      pending := s.pending } ∧
    (s.resetInputs.powerOn = .supplyLow → exec .supplyRise s = .next { s with
      resetInputs := { s.resetInputs with powerOn := .releasing 1024 } }) ∧
    (s.resetInputs.powerOn ≠ .supplyLow → exec .supplyRise s = .next s) ∧
    (∀ n, s.resetInputs.powerOn = .releasing n →
      exec .powerOnRelease s = .next { s with
        resetInputs := { s.resetInputs with powerOn := .released }
        supply := { s.supply with timer := 0 } } ∧
      (s.pending = [] → step s = .next { s with
        resetInputs := { s.resetInputs with powerOn := .releasing (n - 1) }
        pending := if n ≤ 1 then [.powerOnRelease] else [] })) ∧
    ((s.resetInputs.powerOn = .released ∨ s.resetInputs.powerOn = .supplyLow) →
      exec .powerOnRelease s = .next s)

/-! ## Invariants -/

/-- The state after device reset meets every invariant, and its registers read as Table 10-1 gives them.
In any state each register reads its owner's state at the positions of Tables 10-2 to 10-4 and 9-3, and
every other bit 0 (R37, R102, R125, R129, R134, R138, R139, R143, R156, R163, R164, R172, R179). That the
IDLE flag is clear while a take is due is the model's (assumption 3). The CR_ registers are in the
statement of POP. -/
def Obligations.TheResetStateMeetsTheInvariants : Prop :=
  Inv State.reset ∧ TearFree State.reset ∧
    (∀ o : BitVec 6, readRegister State.reset o =
      match o.toNat with
      | 0x00 => 0xC4#8
      | 0x01 => 0x01#8
      | 0x07 => 0x04#8
      | 0x1B | 0x1C => 0x0A#8
      | 0x20 => 0x33#8
      | 0x21 => 0x77#8
      | 0x25 => 0x02#8
      | 0x26 => 0x10#8
      | 0x28 => 0x01#8
      | 0x2D => 0x0A#8
      | _ => 0x00#8) ∧
  ∀ s : State, ∀ value : BitVec 6 → Nat, (∀ o, value o = (readRegister s o).toNat) →
    value 0x00#6 = 0xC4 ∧ value 0x01#6 = 0x01 ∧
    value 0x02#6 =
      (match s.engine.state with
        | .idle => 0 | .running => 1 | .held => 2 | .waiting => 3 | .stalled => 4
        | .faultPending => 5 | .halted => 6 | .paused => 7) +
      8 * s.engine.pauseRequested.toNat + 16 * s.engine.current.isSome.toNat +
      32 * (match s.engine.holdReason with | .none => 0 | .page => 1 | .present => 2) ∧
    (s.queue.length ≤ 16 → value 0x03#6 = s.queue.length) ∧
    (s.ring.length ≤ 8 → value 0x04#6 = s.ring.length) ∧
    value 0x05#6 = (match s.engine.current with | some c => c.entry.tag.toNat | none => 0) ∧
    value 0x07#6 = s.spaceThreshold.toNat ∧
    value 0x09#6 = s.staging.tag.toNat ∧ value 0x0A#6 = s.staging.flags.toNat ∧
    value 0x0B#6 + 256 * value 0x0C#6 = s.staging.a.toNat ∧
    value 0x0D#6 + 256 * value 0x0E#6 = s.staging.b.toNat ∧
    value 0x0F#6 + 256 * value 0x10#6 = s.staging.c.toNat ∧
    value 0x11#6 = s.staging.d.toNat ∧ value 0x12#6 = s.staging.e.toNat ∧
    value 0x19#6 = s.pages.shown.val ∧
    value 0x1A#6 = (match s.pages.pending with | some p => 128 + p.val | none => 0) ∧
    (∀ (o : BitVec 6) (c : ScanConfig),
      ((o = 0x1B#6 ∧ c = s.scanner.staged) ∨ (o = 0x1C#6 ∧ c = s.scanner.active)) →
      value o = c.commonsCode.toNat + 4 * c.dividerCode.toNat + 16 * c.reverse.toNat) ∧
    (scanRunning s = true → s.scanner.row < 20 →
      value 0x1D#6 = s.scanner.row + 64 +
        (match s.scanner.polarity with | .positive => 0 | .negative => 32)) ∧
    (scanRunning s = false → value 0x1D#6 = 0) ∧
    value 0x1E#6 = s.scanner.frameCount.toNat % 256 ∧ value 0x1F#6 = s.port.frameHold.toNat ∧
    (∀ (o : BitVec 6) (b : Blink),
      ((o = 0x20#6 ∧ b = s.compositor.blinkA) ∨ (o = 0x21#6 ∧ b = s.compositor.blinkB)) →
      value o = b.staged.onLessOne.toNat + 16 * b.staged.offLessOne.toNat) ∧
    value 0x22#6 = (match s.compositor.blinkA.phase with | .on => 0 | .off => 1) +
      (match s.compositor.blinkB.phase with | .on => 0 | .off => 2) ∧
    value 0x24#6 =
      (match s.panel.state with
        | .off => 0 | .charging => 1 | .blanked => 2 | .showing => 3 | .stopping => 4
        | .discharging => 5) +
      8 * (match s.panel.pending with | .none => 0 | .show => 1 | .blank => 2) +
      32 * s.panel.showAfterCharge.toNat ∧
    value 0x25#6 = s.panel.chargeTime.toNat ∧ value 0x26#6 = s.panel.contrastTarget.toNat ∧
    value 0x27#6 = s.panel.contrastActual.toNat ∧
    value 0x28#6 = s.supply.enabled.toNat + (match s.supply.state with | .ok => 0 | .low => 2) ∧
    value 0x29#6 + 256 * value 0x2A#6 = s.port.pointer.toNat ∧
    value 0x2C#6 = (match s.port.step with | .one => 0 | .eight => 1) ∧
    (∀ i, (readRegister s 0x2D#6).getLsbD i = true ↔
      (i = 0 ∧ s.ring ≠ []) ∨ (i = 1 ∧ s.spaceThreshold.toNat ≤ 16 - s.queue.length) ∨
      (i = 2 ∧ (s.engine.state = .halted ∨ s.engine.state = .faultPending)) ∨
      (i = 3 ∧ s.engine.state = .idle ∧ s.engine.takeDue = false) ∨
      (i = 4 ∧ s.irq.pair = true) ∨ (i = 5 ∧ s.irq.panel = true) ∨
      (i = 6 ∧ s.irq.supply = true) ∨ (i = 7 ∧ s.irq.access = true)) ∧
    value 0x2E#6 = s.irq.overrun.toNat + 2 * s.irq.reject.toNat + 4 * s.irq.refused.toNat ∧
    value 0x2F#6 = s.irq.enableLo.toNat ∧ value 0x30#6 = s.irq.enableHi.toNat ∧
    value 0x31#6 = s.port.zoneIndex.val + 8 * s.port.zoneActive.toNat ∧
    (∀ z : ZoneEntry,
      z = (if s.port.zoneActive then s.compositor.activeZones.get s.port.zoneIndex
        else s.compositor.stagedZones.get s.port.zoneIndex) →
      value 0x32#6 = z.firstColumn.toNat ∧ value 0x33#6 = z.lastColumn.toNat ∧
      value 0x34#6 = z.firstRow.toNat ∧ value 0x35#6 = z.lastRow.toNat ∧
      value 0x36#6 = z.enable.toNat +
        (match z.effect with | .invert => 0 | .blank => 2 | .blinkOff => 4 | .blinkInvert => 6) +
        (match z.group with | .a => 0 | .b => 8)) ∧
    ∀ o : BitVec 6, (o = 0x06#6 ∨ o = 0x08#6 ∨ o = 0x23#6 ∨ 0x37 ≤ o.toNat) → value o = 0

/-- Memory keeps its canonical form, whatever else the state holds. -/
def Obligations.EveryStepKeepsMemoryCanonical : Prop :=
  ∀ s : State, MemoryInv s → ∀ t, step s = .next t → MemoryInv t

/-- The panel, the scanner, the drive, the supply monitor, the compositor and the reset inputs keep their
legal states, each whatever the rest of the state holds. That at a stop of the scan a row-read grant in
progress is discarded like the requests is the model's reading (assumption 13), and that no dots are held
while it is stopped its choice (assumption 14), as is the value of the sample timer of a disabled monitor
(assumption 32). -/
def Obligations.EveryStepKeepsTheDisplayInvariants : Prop :=
  ∀ (s t : State), step s = .next t →
    (PanelInv s → PanelInv t) ∧ (ScannerInv s → ScannerInv t) ∧ (DriveInv s → DriveInv t) ∧
      (SupplyInv s → SupplyInv t) ∧ (CompositorInv s → CompositorInv t) ∧ (ResetInv s → ResetInv t)

/-- The queue, the ring, the engine, the presentation unit and the arbiter keep their legal states;
among them, no data-port request waits while an engine request is owed the grant (R9), every access at
the arbiter is for mapped bytes (R6, R66), and while an access that an ENGINE_RESET has left to be
finished is outstanding the engine takes nothing (R16, R162, assumption 33). That a RUNNING engine
always has a request or a grant is the model's choice of when it raises the next request (assumption
34); the marks of a request owed a grant and of a take that is due are its own fields (assumption 30,
assumption 3). -/
def Obligations.EveryStepKeepsTheEngineInvariants : Prop :=
  ∀ s : State, Inv s → ∀ t, step s = .next t →
    BoundsInv t ∧ WaitingRecordInv t ∧ EngineInv t ∧ PresentInv t ∧ EngineAccessInv t ∧
      ArbiterBusyInv t ∧ ServiceInv t ∧ DroppedInv t ∧ DrawingInv t ∧ MappedInv t

/-- No tearing (R43, R182): no step but the start of the scan puts a COPY or STAMP without LIVE to work on
the shown or the pending page of a running scan. The start is excepted because a command begun while the
scan was stopped goes on (R48). It holds to the last write of a command that an ENGINE_RESET drops: what
the reset leaves to be finished writes no byte of the shown page, and until it has ended no step but a
device reset changes the shown page or makes a page pending (R16, R64, R116, R162, assumption 33). -/
def Obligations.EveryStepKeepsThePictureTearFree : Prop :=
  (∀ s : State, Inv s → TearFree s → s.pending.head? ≠ some .chargeExpiry →
    ∀ t, step s = .next t → TearFree t) ∧
  (∀ (s : State) (c : Current), Inv s → TearFree s → Ready s → s.engine.current = some c →
    s.engine.state = .running → c.entry.flags.getLsbD 1 = false → scanRunning s = true →
    ∃ t, exec .engineReset s = .next t ∧ t.pages = ⟨s.pages.shown, none⟩ ∧
      ∀ e, (t.arbiter.engineRequest = some e ∨ t.arbiter.grant = some (.engine e)) →
        ∀ a ∈ e.access.writes, pageOf a ≠ some s.pages.shown) ∧
  ∀ s t : State, Inv s → droppedOutstanding s = true → step s = .next t →
    (∀ c, s.pending.head? = some c → isResetEvent c = false ∧
      ∀ millivolts, c = .sample millivolts → 2000 ≤ millivolts) →
    t.pages = s.pages ∧ t.pages.pending = none
end

