-- ==== Sys2Proof/Laws/Bits.lean ====
section
/-! SUPPORT. The bit-field helpers: the bits of a word built by `ofBits`, and a pair from its bytes. -/

namespace Sys2Proof.Machine

/-- `ofBits f n` has bit `i` as `f` gives it, for `i` below `n`. -/
theorem getLsbD_ofBits (f : Nat → Bool) {n i : Nat} (h : i < n) : (ofBits f n).getLsbD i = f i := by
  induction n with
  | zero => omega
  | succ n ih =>
    rw [ofBits, BitVec.getLsbD_cons]
    split
    · rename_i heq; rw [heq]
    · exact ih (by omega)

/-- A pair is its two bytes (R164). -/
theorem hiByte_append_loByte (w : Word) : hiByte w ++ loByte w = w := by
  refine BitVec.eq_of_getLsbD_eq fun i hi => ?_
  simp only [hiByte, loByte, BitVec.getLsbD_append, BitVec.getLsbD_setWidth,
    BitVec.getLsbD_ushiftRight]
  by_cases h : i < 8
  · simp [h]
  · have h8 : 8 + (i - 8) = i := by omega
    have hlt : i - 8 < 8 := by omega
    simp [h, h8, hlt]

end Sys2Proof.Machine
end

