-- ==== Sys2Proof/Laws/State.lean ====
section
/-! SUPPORT. Every field of the state after every update: the field set, and the others as they were. All
hold by `rfl`, so that no later proof unfolds a record update. -/

namespace Sys2Proof.Machine

section
variable (s : State) (x : List Host.Cell)

@[simp] theorem State.withMemory_memory : (s.withMemory x).memory = x := rfl
@[simp] theorem State.withMemory_arbiter : (s.withMemory x).arbiter = s.arbiter := rfl
@[simp] theorem State.withMemory_queue : (s.withMemory x).queue = s.queue := rfl
@[simp] theorem State.withMemory_staging : (s.withMemory x).staging = s.staging := rfl
@[simp] theorem State.withMemory_spaceThreshold : (s.withMemory x).spaceThreshold = s.spaceThreshold := rfl
@[simp] theorem State.withMemory_engine : (s.withMemory x).engine = s.engine := rfl
@[simp] theorem State.withMemory_ring : (s.withMemory x).ring = s.ring := rfl
@[simp] theorem State.withMemory_pages : (s.withMemory x).pages = s.pages := rfl
@[simp] theorem State.withMemory_scanner : (s.withMemory x).scanner = s.scanner := rfl
@[simp] theorem State.withMemory_compositor : (s.withMemory x).compositor = s.compositor := rfl
@[simp] theorem State.withMemory_panel : (s.withMemory x).panel = s.panel := rfl
@[simp] theorem State.withMemory_supply : (s.withMemory x).supply = s.supply := rfl
@[simp] theorem State.withMemory_port : (s.withMemory x).port = s.port := rfl
@[simp] theorem State.withMemory_irq : (s.withMemory x).irq = s.irq := rfl
@[simp] theorem State.withMemory_resetInputs : (s.withMemory x).resetInputs = s.resetInputs := rfl
@[simp] theorem State.withMemory_epoch : (s.withMemory x).epoch = s.epoch := rfl
@[simp] theorem State.withMemory_freeCount : (s.withMemory x).freeCount = s.freeCount := rfl
@[simp] theorem State.withMemory_pending : (s.withMemory x).pending = s.pending := rfl

end

section
variable (s : State) (x : Arbiter)

@[simp] theorem State.withArbiter_memory : (s.withArbiter x).memory = s.memory := rfl
@[simp] theorem State.withArbiter_arbiter : (s.withArbiter x).arbiter = x := rfl
@[simp] theorem State.withArbiter_queue : (s.withArbiter x).queue = s.queue := rfl
@[simp] theorem State.withArbiter_staging : (s.withArbiter x).staging = s.staging := rfl
@[simp] theorem State.withArbiter_spaceThreshold : (s.withArbiter x).spaceThreshold = s.spaceThreshold := rfl
@[simp] theorem State.withArbiter_engine : (s.withArbiter x).engine = s.engine := rfl
@[simp] theorem State.withArbiter_ring : (s.withArbiter x).ring = s.ring := rfl
@[simp] theorem State.withArbiter_pages : (s.withArbiter x).pages = s.pages := rfl
@[simp] theorem State.withArbiter_scanner : (s.withArbiter x).scanner = s.scanner := rfl
@[simp] theorem State.withArbiter_compositor : (s.withArbiter x).compositor = s.compositor := rfl
@[simp] theorem State.withArbiter_panel : (s.withArbiter x).panel = s.panel := rfl
@[simp] theorem State.withArbiter_supply : (s.withArbiter x).supply = s.supply := rfl
@[simp] theorem State.withArbiter_port : (s.withArbiter x).port = s.port := rfl
@[simp] theorem State.withArbiter_irq : (s.withArbiter x).irq = s.irq := rfl
@[simp] theorem State.withArbiter_resetInputs : (s.withArbiter x).resetInputs = s.resetInputs := rfl
@[simp] theorem State.withArbiter_epoch : (s.withArbiter x).epoch = s.epoch := rfl
@[simp] theorem State.withArbiter_freeCount : (s.withArbiter x).freeCount = s.freeCount := rfl
@[simp] theorem State.withArbiter_pending : (s.withArbiter x).pending = s.pending := rfl

end

section
variable (s : State) (x : List Entry)

@[simp] theorem State.withQueue_memory : (s.withQueue x).memory = s.memory := rfl
@[simp] theorem State.withQueue_arbiter : (s.withQueue x).arbiter = s.arbiter := rfl
@[simp] theorem State.withQueue_queue : (s.withQueue x).queue = x := rfl
@[simp] theorem State.withQueue_staging : (s.withQueue x).staging = s.staging := rfl
@[simp] theorem State.withQueue_spaceThreshold : (s.withQueue x).spaceThreshold = s.spaceThreshold := rfl
@[simp] theorem State.withQueue_engine : (s.withQueue x).engine = s.engine := rfl
@[simp] theorem State.withQueue_ring : (s.withQueue x).ring = s.ring := rfl
@[simp] theorem State.withQueue_pages : (s.withQueue x).pages = s.pages := rfl
@[simp] theorem State.withQueue_scanner : (s.withQueue x).scanner = s.scanner := rfl
@[simp] theorem State.withQueue_compositor : (s.withQueue x).compositor = s.compositor := rfl
@[simp] theorem State.withQueue_panel : (s.withQueue x).panel = s.panel := rfl
@[simp] theorem State.withQueue_supply : (s.withQueue x).supply = s.supply := rfl
@[simp] theorem State.withQueue_port : (s.withQueue x).port = s.port := rfl
@[simp] theorem State.withQueue_irq : (s.withQueue x).irq = s.irq := rfl
@[simp] theorem State.withQueue_resetInputs : (s.withQueue x).resetInputs = s.resetInputs := rfl
@[simp] theorem State.withQueue_epoch : (s.withQueue x).epoch = s.epoch := rfl
@[simp] theorem State.withQueue_freeCount : (s.withQueue x).freeCount = s.freeCount := rfl
@[simp] theorem State.withQueue_pending : (s.withQueue x).pending = s.pending := rfl

end

section
variable (s : State) (x : Staging)

@[simp] theorem State.withStaging_memory : (s.withStaging x).memory = s.memory := rfl
@[simp] theorem State.withStaging_arbiter : (s.withStaging x).arbiter = s.arbiter := rfl
@[simp] theorem State.withStaging_queue : (s.withStaging x).queue = s.queue := rfl
@[simp] theorem State.withStaging_staging : (s.withStaging x).staging = x := rfl
@[simp] theorem State.withStaging_spaceThreshold : (s.withStaging x).spaceThreshold = s.spaceThreshold := rfl
@[simp] theorem State.withStaging_engine : (s.withStaging x).engine = s.engine := rfl
@[simp] theorem State.withStaging_ring : (s.withStaging x).ring = s.ring := rfl
@[simp] theorem State.withStaging_pages : (s.withStaging x).pages = s.pages := rfl
@[simp] theorem State.withStaging_scanner : (s.withStaging x).scanner = s.scanner := rfl
@[simp] theorem State.withStaging_compositor : (s.withStaging x).compositor = s.compositor := rfl
@[simp] theorem State.withStaging_panel : (s.withStaging x).panel = s.panel := rfl
@[simp] theorem State.withStaging_supply : (s.withStaging x).supply = s.supply := rfl
@[simp] theorem State.withStaging_port : (s.withStaging x).port = s.port := rfl
@[simp] theorem State.withStaging_irq : (s.withStaging x).irq = s.irq := rfl
@[simp] theorem State.withStaging_resetInputs : (s.withStaging x).resetInputs = s.resetInputs := rfl
@[simp] theorem State.withStaging_epoch : (s.withStaging x).epoch = s.epoch := rfl
@[simp] theorem State.withStaging_freeCount : (s.withStaging x).freeCount = s.freeCount := rfl
@[simp] theorem State.withStaging_pending : (s.withStaging x).pending = s.pending := rfl

end

section
variable (s : State) (x : Byte)

@[simp] theorem State.withSpaceThreshold_memory : (s.withSpaceThreshold x).memory = s.memory := rfl
@[simp] theorem State.withSpaceThreshold_arbiter : (s.withSpaceThreshold x).arbiter = s.arbiter := rfl
@[simp] theorem State.withSpaceThreshold_queue : (s.withSpaceThreshold x).queue = s.queue := rfl
@[simp] theorem State.withSpaceThreshold_staging : (s.withSpaceThreshold x).staging = s.staging := rfl
@[simp] theorem State.withSpaceThreshold_spaceThreshold : (s.withSpaceThreshold x).spaceThreshold = x := rfl
@[simp] theorem State.withSpaceThreshold_engine : (s.withSpaceThreshold x).engine = s.engine := rfl
@[simp] theorem State.withSpaceThreshold_ring : (s.withSpaceThreshold x).ring = s.ring := rfl
@[simp] theorem State.withSpaceThreshold_pages : (s.withSpaceThreshold x).pages = s.pages := rfl
@[simp] theorem State.withSpaceThreshold_scanner : (s.withSpaceThreshold x).scanner = s.scanner := rfl
@[simp] theorem State.withSpaceThreshold_compositor : (s.withSpaceThreshold x).compositor = s.compositor := rfl
@[simp] theorem State.withSpaceThreshold_panel : (s.withSpaceThreshold x).panel = s.panel := rfl
@[simp] theorem State.withSpaceThreshold_supply : (s.withSpaceThreshold x).supply = s.supply := rfl
@[simp] theorem State.withSpaceThreshold_port : (s.withSpaceThreshold x).port = s.port := rfl
@[simp] theorem State.withSpaceThreshold_irq : (s.withSpaceThreshold x).irq = s.irq := rfl
@[simp] theorem State.withSpaceThreshold_resetInputs : (s.withSpaceThreshold x).resetInputs = s.resetInputs := rfl
@[simp] theorem State.withSpaceThreshold_epoch : (s.withSpaceThreshold x).epoch = s.epoch := rfl
@[simp] theorem State.withSpaceThreshold_freeCount : (s.withSpaceThreshold x).freeCount = s.freeCount := rfl
@[simp] theorem State.withSpaceThreshold_pending : (s.withSpaceThreshold x).pending = s.pending := rfl

end

section
variable (s : State) (x : Engine)

@[simp] theorem State.withEngine_memory : (s.withEngine x).memory = s.memory := rfl
@[simp] theorem State.withEngine_arbiter : (s.withEngine x).arbiter = s.arbiter := rfl
@[simp] theorem State.withEngine_queue : (s.withEngine x).queue = s.queue := rfl
@[simp] theorem State.withEngine_staging : (s.withEngine x).staging = s.staging := rfl
@[simp] theorem State.withEngine_spaceThreshold : (s.withEngine x).spaceThreshold = s.spaceThreshold := rfl
@[simp] theorem State.withEngine_engine : (s.withEngine x).engine = x := rfl
@[simp] theorem State.withEngine_ring : (s.withEngine x).ring = s.ring := rfl
@[simp] theorem State.withEngine_pages : (s.withEngine x).pages = s.pages := rfl
@[simp] theorem State.withEngine_scanner : (s.withEngine x).scanner = s.scanner := rfl
@[simp] theorem State.withEngine_compositor : (s.withEngine x).compositor = s.compositor := rfl
@[simp] theorem State.withEngine_panel : (s.withEngine x).panel = s.panel := rfl
@[simp] theorem State.withEngine_supply : (s.withEngine x).supply = s.supply := rfl
@[simp] theorem State.withEngine_port : (s.withEngine x).port = s.port := rfl
@[simp] theorem State.withEngine_irq : (s.withEngine x).irq = s.irq := rfl
@[simp] theorem State.withEngine_resetInputs : (s.withEngine x).resetInputs = s.resetInputs := rfl
@[simp] theorem State.withEngine_epoch : (s.withEngine x).epoch = s.epoch := rfl
@[simp] theorem State.withEngine_freeCount : (s.withEngine x).freeCount = s.freeCount := rfl
@[simp] theorem State.withEngine_pending : (s.withEngine x).pending = s.pending := rfl

end

section
variable (s : State) (x : List Record)

@[simp] theorem State.withRing_memory : (s.withRing x).memory = s.memory := rfl
@[simp] theorem State.withRing_arbiter : (s.withRing x).arbiter = s.arbiter := rfl
@[simp] theorem State.withRing_queue : (s.withRing x).queue = s.queue := rfl
@[simp] theorem State.withRing_staging : (s.withRing x).staging = s.staging := rfl
@[simp] theorem State.withRing_spaceThreshold : (s.withRing x).spaceThreshold = s.spaceThreshold := rfl
@[simp] theorem State.withRing_engine : (s.withRing x).engine = s.engine := rfl
@[simp] theorem State.withRing_ring : (s.withRing x).ring = x := rfl
@[simp] theorem State.withRing_pages : (s.withRing x).pages = s.pages := rfl
@[simp] theorem State.withRing_scanner : (s.withRing x).scanner = s.scanner := rfl
@[simp] theorem State.withRing_compositor : (s.withRing x).compositor = s.compositor := rfl
@[simp] theorem State.withRing_panel : (s.withRing x).panel = s.panel := rfl
@[simp] theorem State.withRing_supply : (s.withRing x).supply = s.supply := rfl
@[simp] theorem State.withRing_port : (s.withRing x).port = s.port := rfl
@[simp] theorem State.withRing_irq : (s.withRing x).irq = s.irq := rfl
@[simp] theorem State.withRing_resetInputs : (s.withRing x).resetInputs = s.resetInputs := rfl
@[simp] theorem State.withRing_epoch : (s.withRing x).epoch = s.epoch := rfl
@[simp] theorem State.withRing_freeCount : (s.withRing x).freeCount = s.freeCount := rfl
@[simp] theorem State.withRing_pending : (s.withRing x).pending = s.pending := rfl

end

section
variable (s : State) (x : Presentation)

@[simp] theorem State.withPages_memory : (s.withPages x).memory = s.memory := rfl
@[simp] theorem State.withPages_arbiter : (s.withPages x).arbiter = s.arbiter := rfl
@[simp] theorem State.withPages_queue : (s.withPages x).queue = s.queue := rfl
@[simp] theorem State.withPages_staging : (s.withPages x).staging = s.staging := rfl
@[simp] theorem State.withPages_spaceThreshold : (s.withPages x).spaceThreshold = s.spaceThreshold := rfl
@[simp] theorem State.withPages_engine : (s.withPages x).engine = s.engine := rfl
@[simp] theorem State.withPages_ring : (s.withPages x).ring = s.ring := rfl
@[simp] theorem State.withPages_pages : (s.withPages x).pages = x := rfl
@[simp] theorem State.withPages_scanner : (s.withPages x).scanner = s.scanner := rfl
@[simp] theorem State.withPages_compositor : (s.withPages x).compositor = s.compositor := rfl
@[simp] theorem State.withPages_panel : (s.withPages x).panel = s.panel := rfl
@[simp] theorem State.withPages_supply : (s.withPages x).supply = s.supply := rfl
@[simp] theorem State.withPages_port : (s.withPages x).port = s.port := rfl
@[simp] theorem State.withPages_irq : (s.withPages x).irq = s.irq := rfl
@[simp] theorem State.withPages_resetInputs : (s.withPages x).resetInputs = s.resetInputs := rfl
@[simp] theorem State.withPages_epoch : (s.withPages x).epoch = s.epoch := rfl
@[simp] theorem State.withPages_freeCount : (s.withPages x).freeCount = s.freeCount := rfl
@[simp] theorem State.withPages_pending : (s.withPages x).pending = s.pending := rfl

end

section
variable (s : State) (x : Scanner)

@[simp] theorem State.withScanner_memory : (s.withScanner x).memory = s.memory := rfl
@[simp] theorem State.withScanner_arbiter : (s.withScanner x).arbiter = s.arbiter := rfl
@[simp] theorem State.withScanner_queue : (s.withScanner x).queue = s.queue := rfl
@[simp] theorem State.withScanner_staging : (s.withScanner x).staging = s.staging := rfl
@[simp] theorem State.withScanner_spaceThreshold : (s.withScanner x).spaceThreshold = s.spaceThreshold := rfl
@[simp] theorem State.withScanner_engine : (s.withScanner x).engine = s.engine := rfl
@[simp] theorem State.withScanner_ring : (s.withScanner x).ring = s.ring := rfl
@[simp] theorem State.withScanner_pages : (s.withScanner x).pages = s.pages := rfl
@[simp] theorem State.withScanner_scanner : (s.withScanner x).scanner = x := rfl
@[simp] theorem State.withScanner_compositor : (s.withScanner x).compositor = s.compositor := rfl
@[simp] theorem State.withScanner_panel : (s.withScanner x).panel = s.panel := rfl
@[simp] theorem State.withScanner_supply : (s.withScanner x).supply = s.supply := rfl
@[simp] theorem State.withScanner_port : (s.withScanner x).port = s.port := rfl
@[simp] theorem State.withScanner_irq : (s.withScanner x).irq = s.irq := rfl
@[simp] theorem State.withScanner_resetInputs : (s.withScanner x).resetInputs = s.resetInputs := rfl
@[simp] theorem State.withScanner_epoch : (s.withScanner x).epoch = s.epoch := rfl
@[simp] theorem State.withScanner_freeCount : (s.withScanner x).freeCount = s.freeCount := rfl
@[simp] theorem State.withScanner_pending : (s.withScanner x).pending = s.pending := rfl

end

section
variable (s : State) (x : Compositor)

@[simp] theorem State.withCompositor_memory : (s.withCompositor x).memory = s.memory := rfl
@[simp] theorem State.withCompositor_arbiter : (s.withCompositor x).arbiter = s.arbiter := rfl
@[simp] theorem State.withCompositor_queue : (s.withCompositor x).queue = s.queue := rfl
@[simp] theorem State.withCompositor_staging : (s.withCompositor x).staging = s.staging := rfl
@[simp] theorem State.withCompositor_spaceThreshold : (s.withCompositor x).spaceThreshold = s.spaceThreshold := rfl
@[simp] theorem State.withCompositor_engine : (s.withCompositor x).engine = s.engine := rfl
@[simp] theorem State.withCompositor_ring : (s.withCompositor x).ring = s.ring := rfl
@[simp] theorem State.withCompositor_pages : (s.withCompositor x).pages = s.pages := rfl
@[simp] theorem State.withCompositor_scanner : (s.withCompositor x).scanner = s.scanner := rfl
@[simp] theorem State.withCompositor_compositor : (s.withCompositor x).compositor = x := rfl
@[simp] theorem State.withCompositor_panel : (s.withCompositor x).panel = s.panel := rfl
@[simp] theorem State.withCompositor_supply : (s.withCompositor x).supply = s.supply := rfl
@[simp] theorem State.withCompositor_port : (s.withCompositor x).port = s.port := rfl
@[simp] theorem State.withCompositor_irq : (s.withCompositor x).irq = s.irq := rfl
@[simp] theorem State.withCompositor_resetInputs : (s.withCompositor x).resetInputs = s.resetInputs := rfl
@[simp] theorem State.withCompositor_epoch : (s.withCompositor x).epoch = s.epoch := rfl
@[simp] theorem State.withCompositor_freeCount : (s.withCompositor x).freeCount = s.freeCount := rfl
@[simp] theorem State.withCompositor_pending : (s.withCompositor x).pending = s.pending := rfl

end

section
variable (s : State) (x : Panel)

@[simp] theorem State.withPanel_memory : (s.withPanel x).memory = s.memory := rfl
@[simp] theorem State.withPanel_arbiter : (s.withPanel x).arbiter = s.arbiter := rfl
@[simp] theorem State.withPanel_queue : (s.withPanel x).queue = s.queue := rfl
@[simp] theorem State.withPanel_staging : (s.withPanel x).staging = s.staging := rfl
@[simp] theorem State.withPanel_spaceThreshold : (s.withPanel x).spaceThreshold = s.spaceThreshold := rfl
@[simp] theorem State.withPanel_engine : (s.withPanel x).engine = s.engine := rfl
@[simp] theorem State.withPanel_ring : (s.withPanel x).ring = s.ring := rfl
@[simp] theorem State.withPanel_pages : (s.withPanel x).pages = s.pages := rfl
@[simp] theorem State.withPanel_scanner : (s.withPanel x).scanner = s.scanner := rfl
@[simp] theorem State.withPanel_compositor : (s.withPanel x).compositor = s.compositor := rfl
@[simp] theorem State.withPanel_panel : (s.withPanel x).panel = x := rfl
@[simp] theorem State.withPanel_supply : (s.withPanel x).supply = s.supply := rfl
@[simp] theorem State.withPanel_port : (s.withPanel x).port = s.port := rfl
@[simp] theorem State.withPanel_irq : (s.withPanel x).irq = s.irq := rfl
@[simp] theorem State.withPanel_resetInputs : (s.withPanel x).resetInputs = s.resetInputs := rfl
@[simp] theorem State.withPanel_epoch : (s.withPanel x).epoch = s.epoch := rfl
@[simp] theorem State.withPanel_freeCount : (s.withPanel x).freeCount = s.freeCount := rfl
@[simp] theorem State.withPanel_pending : (s.withPanel x).pending = s.pending := rfl

end

section
variable (s : State) (x : Supply)

@[simp] theorem State.withSupply_memory : (s.withSupply x).memory = s.memory := rfl
@[simp] theorem State.withSupply_arbiter : (s.withSupply x).arbiter = s.arbiter := rfl
@[simp] theorem State.withSupply_queue : (s.withSupply x).queue = s.queue := rfl
@[simp] theorem State.withSupply_staging : (s.withSupply x).staging = s.staging := rfl
@[simp] theorem State.withSupply_spaceThreshold : (s.withSupply x).spaceThreshold = s.spaceThreshold := rfl
@[simp] theorem State.withSupply_engine : (s.withSupply x).engine = s.engine := rfl
@[simp] theorem State.withSupply_ring : (s.withSupply x).ring = s.ring := rfl
@[simp] theorem State.withSupply_pages : (s.withSupply x).pages = s.pages := rfl
@[simp] theorem State.withSupply_scanner : (s.withSupply x).scanner = s.scanner := rfl
@[simp] theorem State.withSupply_compositor : (s.withSupply x).compositor = s.compositor := rfl
@[simp] theorem State.withSupply_panel : (s.withSupply x).panel = s.panel := rfl
@[simp] theorem State.withSupply_supply : (s.withSupply x).supply = x := rfl
@[simp] theorem State.withSupply_port : (s.withSupply x).port = s.port := rfl
@[simp] theorem State.withSupply_irq : (s.withSupply x).irq = s.irq := rfl
@[simp] theorem State.withSupply_resetInputs : (s.withSupply x).resetInputs = s.resetInputs := rfl
@[simp] theorem State.withSupply_epoch : (s.withSupply x).epoch = s.epoch := rfl
@[simp] theorem State.withSupply_freeCount : (s.withSupply x).freeCount = s.freeCount := rfl
@[simp] theorem State.withSupply_pending : (s.withSupply x).pending = s.pending := rfl

end

section
variable (s : State) (x : Port)

@[simp] theorem State.withPort_memory : (s.withPort x).memory = s.memory := rfl
@[simp] theorem State.withPort_arbiter : (s.withPort x).arbiter = s.arbiter := rfl
@[simp] theorem State.withPort_queue : (s.withPort x).queue = s.queue := rfl
@[simp] theorem State.withPort_staging : (s.withPort x).staging = s.staging := rfl
@[simp] theorem State.withPort_spaceThreshold : (s.withPort x).spaceThreshold = s.spaceThreshold := rfl
@[simp] theorem State.withPort_engine : (s.withPort x).engine = s.engine := rfl
@[simp] theorem State.withPort_ring : (s.withPort x).ring = s.ring := rfl
@[simp] theorem State.withPort_pages : (s.withPort x).pages = s.pages := rfl
@[simp] theorem State.withPort_scanner : (s.withPort x).scanner = s.scanner := rfl
@[simp] theorem State.withPort_compositor : (s.withPort x).compositor = s.compositor := rfl
@[simp] theorem State.withPort_panel : (s.withPort x).panel = s.panel := rfl
@[simp] theorem State.withPort_supply : (s.withPort x).supply = s.supply := rfl
@[simp] theorem State.withPort_port : (s.withPort x).port = x := rfl
@[simp] theorem State.withPort_irq : (s.withPort x).irq = s.irq := rfl
@[simp] theorem State.withPort_resetInputs : (s.withPort x).resetInputs = s.resetInputs := rfl
@[simp] theorem State.withPort_epoch : (s.withPort x).epoch = s.epoch := rfl
@[simp] theorem State.withPort_freeCount : (s.withPort x).freeCount = s.freeCount := rfl
@[simp] theorem State.withPort_pending : (s.withPort x).pending = s.pending := rfl

end

section
variable (s : State) (x : Irq)

@[simp] theorem State.withIrq_memory : (s.withIrq x).memory = s.memory := rfl
@[simp] theorem State.withIrq_arbiter : (s.withIrq x).arbiter = s.arbiter := rfl
@[simp] theorem State.withIrq_queue : (s.withIrq x).queue = s.queue := rfl
@[simp] theorem State.withIrq_staging : (s.withIrq x).staging = s.staging := rfl
@[simp] theorem State.withIrq_spaceThreshold : (s.withIrq x).spaceThreshold = s.spaceThreshold := rfl
@[simp] theorem State.withIrq_engine : (s.withIrq x).engine = s.engine := rfl
@[simp] theorem State.withIrq_ring : (s.withIrq x).ring = s.ring := rfl
@[simp] theorem State.withIrq_pages : (s.withIrq x).pages = s.pages := rfl
@[simp] theorem State.withIrq_scanner : (s.withIrq x).scanner = s.scanner := rfl
@[simp] theorem State.withIrq_compositor : (s.withIrq x).compositor = s.compositor := rfl
@[simp] theorem State.withIrq_panel : (s.withIrq x).panel = s.panel := rfl
@[simp] theorem State.withIrq_supply : (s.withIrq x).supply = s.supply := rfl
@[simp] theorem State.withIrq_port : (s.withIrq x).port = s.port := rfl
@[simp] theorem State.withIrq_irq : (s.withIrq x).irq = x := rfl
@[simp] theorem State.withIrq_resetInputs : (s.withIrq x).resetInputs = s.resetInputs := rfl
@[simp] theorem State.withIrq_epoch : (s.withIrq x).epoch = s.epoch := rfl
@[simp] theorem State.withIrq_freeCount : (s.withIrq x).freeCount = s.freeCount := rfl
@[simp] theorem State.withIrq_pending : (s.withIrq x).pending = s.pending := rfl

end

section
variable (s : State) (x : ResetInputs)

@[simp] theorem State.withResetInputs_memory : (s.withResetInputs x).memory = s.memory := rfl
@[simp] theorem State.withResetInputs_arbiter : (s.withResetInputs x).arbiter = s.arbiter := rfl
@[simp] theorem State.withResetInputs_queue : (s.withResetInputs x).queue = s.queue := rfl
@[simp] theorem State.withResetInputs_staging : (s.withResetInputs x).staging = s.staging := rfl
@[simp] theorem State.withResetInputs_spaceThreshold : (s.withResetInputs x).spaceThreshold = s.spaceThreshold := rfl
@[simp] theorem State.withResetInputs_engine : (s.withResetInputs x).engine = s.engine := rfl
@[simp] theorem State.withResetInputs_ring : (s.withResetInputs x).ring = s.ring := rfl
@[simp] theorem State.withResetInputs_pages : (s.withResetInputs x).pages = s.pages := rfl
@[simp] theorem State.withResetInputs_scanner : (s.withResetInputs x).scanner = s.scanner := rfl
@[simp] theorem State.withResetInputs_compositor : (s.withResetInputs x).compositor = s.compositor := rfl
@[simp] theorem State.withResetInputs_panel : (s.withResetInputs x).panel = s.panel := rfl
@[simp] theorem State.withResetInputs_supply : (s.withResetInputs x).supply = s.supply := rfl
@[simp] theorem State.withResetInputs_port : (s.withResetInputs x).port = s.port := rfl
@[simp] theorem State.withResetInputs_irq : (s.withResetInputs x).irq = s.irq := rfl
@[simp] theorem State.withResetInputs_resetInputs : (s.withResetInputs x).resetInputs = x := rfl
@[simp] theorem State.withResetInputs_epoch : (s.withResetInputs x).epoch = s.epoch := rfl
@[simp] theorem State.withResetInputs_freeCount : (s.withResetInputs x).freeCount = s.freeCount := rfl
@[simp] theorem State.withResetInputs_pending : (s.withResetInputs x).pending = s.pending := rfl

end

section
variable (s : State) (x : Nat)

@[simp] theorem State.withEpoch_memory : (s.withEpoch x).memory = s.memory := rfl
@[simp] theorem State.withEpoch_arbiter : (s.withEpoch x).arbiter = s.arbiter := rfl
@[simp] theorem State.withEpoch_queue : (s.withEpoch x).queue = s.queue := rfl
@[simp] theorem State.withEpoch_staging : (s.withEpoch x).staging = s.staging := rfl
@[simp] theorem State.withEpoch_spaceThreshold : (s.withEpoch x).spaceThreshold = s.spaceThreshold := rfl
@[simp] theorem State.withEpoch_engine : (s.withEpoch x).engine = s.engine := rfl
@[simp] theorem State.withEpoch_ring : (s.withEpoch x).ring = s.ring := rfl
@[simp] theorem State.withEpoch_pages : (s.withEpoch x).pages = s.pages := rfl
@[simp] theorem State.withEpoch_scanner : (s.withEpoch x).scanner = s.scanner := rfl
@[simp] theorem State.withEpoch_compositor : (s.withEpoch x).compositor = s.compositor := rfl
@[simp] theorem State.withEpoch_panel : (s.withEpoch x).panel = s.panel := rfl
@[simp] theorem State.withEpoch_supply : (s.withEpoch x).supply = s.supply := rfl
@[simp] theorem State.withEpoch_port : (s.withEpoch x).port = s.port := rfl
@[simp] theorem State.withEpoch_irq : (s.withEpoch x).irq = s.irq := rfl
@[simp] theorem State.withEpoch_resetInputs : (s.withEpoch x).resetInputs = s.resetInputs := rfl
@[simp] theorem State.withEpoch_epoch : (s.withEpoch x).epoch = x := rfl
@[simp] theorem State.withEpoch_freeCount : (s.withEpoch x).freeCount = s.freeCount := rfl
@[simp] theorem State.withEpoch_pending : (s.withEpoch x).pending = s.pending := rfl

end

section
variable (s : State) (x : Nat)

@[simp] theorem State.withFreeCount_memory : (s.withFreeCount x).memory = s.memory := rfl
@[simp] theorem State.withFreeCount_arbiter : (s.withFreeCount x).arbiter = s.arbiter := rfl
@[simp] theorem State.withFreeCount_queue : (s.withFreeCount x).queue = s.queue := rfl
@[simp] theorem State.withFreeCount_staging : (s.withFreeCount x).staging = s.staging := rfl
@[simp] theorem State.withFreeCount_spaceThreshold : (s.withFreeCount x).spaceThreshold = s.spaceThreshold := rfl
@[simp] theorem State.withFreeCount_engine : (s.withFreeCount x).engine = s.engine := rfl
@[simp] theorem State.withFreeCount_ring : (s.withFreeCount x).ring = s.ring := rfl
@[simp] theorem State.withFreeCount_pages : (s.withFreeCount x).pages = s.pages := rfl
@[simp] theorem State.withFreeCount_scanner : (s.withFreeCount x).scanner = s.scanner := rfl
@[simp] theorem State.withFreeCount_compositor : (s.withFreeCount x).compositor = s.compositor := rfl
@[simp] theorem State.withFreeCount_panel : (s.withFreeCount x).panel = s.panel := rfl
@[simp] theorem State.withFreeCount_supply : (s.withFreeCount x).supply = s.supply := rfl
@[simp] theorem State.withFreeCount_port : (s.withFreeCount x).port = s.port := rfl
@[simp] theorem State.withFreeCount_irq : (s.withFreeCount x).irq = s.irq := rfl
@[simp] theorem State.withFreeCount_resetInputs : (s.withFreeCount x).resetInputs = s.resetInputs := rfl
@[simp] theorem State.withFreeCount_epoch : (s.withFreeCount x).epoch = s.epoch := rfl
@[simp] theorem State.withFreeCount_freeCount : (s.withFreeCount x).freeCount = x := rfl
@[simp] theorem State.withFreeCount_pending : (s.withFreeCount x).pending = s.pending := rfl

end

section
variable (s : State) (x : List Instr)

@[simp] theorem State.withPending_memory : (s.withPending x).memory = s.memory := rfl
@[simp] theorem State.withPending_arbiter : (s.withPending x).arbiter = s.arbiter := rfl
@[simp] theorem State.withPending_queue : (s.withPending x).queue = s.queue := rfl
@[simp] theorem State.withPending_staging : (s.withPending x).staging = s.staging := rfl
@[simp] theorem State.withPending_spaceThreshold : (s.withPending x).spaceThreshold = s.spaceThreshold := rfl
@[simp] theorem State.withPending_engine : (s.withPending x).engine = s.engine := rfl
@[simp] theorem State.withPending_ring : (s.withPending x).ring = s.ring := rfl
@[simp] theorem State.withPending_pages : (s.withPending x).pages = s.pages := rfl
@[simp] theorem State.withPending_scanner : (s.withPending x).scanner = s.scanner := rfl
@[simp] theorem State.withPending_compositor : (s.withPending x).compositor = s.compositor := rfl
@[simp] theorem State.withPending_panel : (s.withPending x).panel = s.panel := rfl
@[simp] theorem State.withPending_supply : (s.withPending x).supply = s.supply := rfl
@[simp] theorem State.withPending_port : (s.withPending x).port = s.port := rfl
@[simp] theorem State.withPending_irq : (s.withPending x).irq = s.irq := rfl
@[simp] theorem State.withPending_resetInputs : (s.withPending x).resetInputs = s.resetInputs := rfl
@[simp] theorem State.withPending_epoch : (s.withPending x).epoch = s.epoch := rfl
@[simp] theorem State.withPending_freeCount : (s.withPending x).freeCount = s.freeCount := rfl
@[simp] theorem State.withPending_pending : (s.withPending x).pending = x := rfl

end

end Sys2Proof.Machine
end

