-- ==== Sys2Proof/Laws/Memory.lean ====
section
/-! SUPPORT. The laws of memory: what a read finds after an insertion or a write, and that every memory
operation keeps the canonical form. -/

namespace Sys2Proof.Machine

@[simp] theorem memoryRead_nil (a : Nat) : memoryRead [] a = none := rfl

/-- A read at the address inserted finds the value inserted. -/
theorem memoryRead_memoryInsert_same (m : List Host.Cell) (a : Nat) (v : Byte) :
    memoryRead (memoryInsert m a v) a = some v := by
  induction m with
  | nil => simp [memoryInsert, memoryRead]
  | cons c m ih =>
    obtain ⟨b, w⟩ := c
    simp only [memoryInsert]
    split
    · simp [memoryRead]
    · split
      · simp [memoryRead]
      · rename_i h; simp [memoryRead, h, ih]

/-- A read at any other address finds what it found before. -/
theorem memoryRead_memoryInsert_ne {a b : Nat} (h : b ≠ a) (m : List Host.Cell) (v : Byte) :
    memoryRead (memoryInsert m a v) b = memoryRead m b := by
  induction m with
  | nil => simp [memoryInsert, memoryRead, h]
  | cons c m ih =>
    obtain ⟨d, w⟩ := c
    simp only [memoryInsert]
    split
    · simp [memoryRead, h]
    · split
      · rename_i heq; subst heq; simp [memoryRead, h]
      · simp [memoryRead, ih]

/-- An insertion adds no address but its own. -/
theorem memoryInsert_all {p : Host.Cell → Bool} (m : List Host.Cell) (a : Nat) (v : Byte)
    (hm : m.all p = true) (hp : p (a, v) = true) : (memoryInsert m a v).all p = true := by
  induction m with
  | nil => simp [memoryInsert, hp]
  | cons c m ih =>
    obtain ⟨b, w⟩ := c
    simp only [List.all_cons, Bool.and_eq_true] at hm
    simp only [memoryInsert]
    split
    · simp [hp, hm]
    · split
      · simp [hp, hm.2]
      · simp [hm.1, ih hm.2]

/-- An insertion at a mapped address keeps the canonical form. -/
theorem memoryInsert_wf (m : List Host.Cell) (a : Nat) (v : Byte) (hm : Memory.wf m = true)
    (ha : mapped a = true) : Memory.wf (memoryInsert m a v) = true := by
  induction m with
  | nil => simp [memoryInsert, Memory.wf, ha]
  | cons c m ih =>
    obtain ⟨b, w⟩ := c
    simp only [Memory.wf, Bool.and_eq_true] at hm
    obtain ⟨⟨hb, hall⟩, hwf⟩ := hm
    simp only [memoryInsert]
    split
    · rename_i hab
      have hrest : (m.all fun d => decide (a < d.1)) = true := by
        refine List.all_eq_true.mpr fun d hd => decide_eq_true ?_
        have := of_decide_eq_true (List.all_eq_true.mp hall d hd)
        omega
      simp [Memory.wf, ha, hb, hall, hwf, hab, hrest]
    · split
      · rename_i heq; subst heq; simp [Memory.wf, ha, hall, hwf]
      · rename_i h1 h2
        have hba : decide (b < (a, v).1) = true := decide_eq_true (show b < a by omega)
        simp [Memory.wf, hb, ih hwf, memoryInsert_all m a v hall hba]

/-- A write keeps the canonical form. -/
theorem memoryWrite_wf (m : List Host.Cell) (a : Nat) (v : Byte) (hm : Memory.wf m = true) :
    Memory.wf (memoryWrite m a v) = true := by
  unfold memoryWrite
  split
  · rename_i ha; exact memoryInsert_wf m a v hm ha
  · exact hm

/-- What a read finds after a write at a mapped address. -/
theorem memoryRead_memoryWrite (m : List Host.Cell) (a b : Nat) (v : Byte) (ha : mapped a = true) :
    memoryRead (memoryWrite m a v) b = if b = a then some v else memoryRead m b := by
  rw [memoryWrite, if_pos ha]
  split
  · rename_i h; rw [h, memoryRead_memoryInsert_same]
  · rename_i h; exact memoryRead_memoryInsert_ne h m v

/-- The empty memory of reset is in canonical form. -/
theorem reset_memory_wf : Memory.wf State.reset.memory = true := rfl

/-- `writeByte` changes memory and nothing else. -/
theorem writeByte_eq (a : Nat) (v : Byte) (s : State) :
    writeByte a v s = { s with memory := memoryWrite s.memory a v } := rfl

end Sys2Proof.Machine
end

