-- ==== Sys2Proof/Laws/Ops.lean ====
section
/-! SUPPORT. One lemma for each shared operation, saying once what it does: what an event or an access
meets, the arbiter's requests, the endings, beginning, holding and handing over, the switch, the takes,
and the stop of the scan. Proofs about commands cite these in place of unfolding the operations. -/

namespace Sys2Proof.Machine

/-! ## What an event or an access meets -/

/-- An event of the part acts on a settled state as it stands. -/
theorem onEvent_of_settled {s : State} (h : Settled s) (event : State → State) :
    onEvent event s = event s := by
  have h' : s.engine.takeDue = false := h
  simp [onEvent, queueCapacity, settleTakes, h']

/-- A ready state is what an access of the host meets. -/
theorem beforeAccess_of_ready {s : State} (h : Ready s) : beforeAccess s = s := by
  obtain ⟨-, hTake, hOutstanding⟩ := h
  simp [beforeAccess, onEvent, queueCapacity, settleTakes, settleAccess, settleBound, hTake,
    hOutstanding]

/-- An access of the host acts on a ready state as it stands. -/
theorem onBus_of_ready {s : State} (h : Ready s) (effect : State → State) :
    onBus effect s = effect s := by
  simp [onBus, h.1, beforeAccess_of_ready h]

/-- A data-port access leaves the arbiter as it stands while no engine request is owed a grant. -/
theorem beforePortGrant_of_not_owed {s : State} (h : s.arbiter.engineOwed = false) :
    beforePortGrant s = s := by
  simp [beforePortGrant, settleBound, settleEngine, h]

/-- An event that grants the engine request that was owed leaves the state a data-port grant is requested
in. -/
theorem beforePortGrant_of_owed {s : State} (h : s.arbiter.engineOwed = true)
    (hGranted : (endGrant s).arbiter.engineOwed = false) : beforePortGrant s = endGrant s := by
  simp [beforePortGrant, settleBound, settleEngine, h, hGranted]

/-- No access is taken in reset. -/
theorem onBus_of_inReset {s : State} (h : inReset s = true) (effect : State → State) :
    onBus effect s = s := by
  simp [onBus, h]

/-- A read of any register but FRAME_COUNT lo and PORT_DATA leaves a ready state as it stands and returns
the register. -/
theorem hostRead_of_ready {s : State} (h : Ready s) {offset : BitVec 6}
    (hFrame : offset.toNat ≠ 0x1E) (hPort : offset.toNat ≠ 0x2B) :
    hostRead offset s = (s, some (readRegister s offset)) := by
  simp [hostRead, h.1, beforeAccess_of_ready h]

/-! ## The arbiter -/

/-- The arbiter changes its own state and nothing else. -/
theorem arbitrate_frame (s : State) : ∃ b, arbitrate s = s.withArbiter b := by
  unfold arbitrate
  split
  · exact ⟨s.arbiter, rfl⟩
  · split
    · exact ⟨_, rfl⟩
    · split
      · exact ⟨_, rfl⟩
      · split
        · exact ⟨_, rfl⟩
        · exact ⟨s.arbiter, rfl⟩

/-- After the arbiter has acted a grant is in progress or no request waits. -/
theorem arbitrate_busy (s : State) : ArbiterBusyInv (arbitrate s) := by
  unfold ArbiterBusyInv arbitrate
  split <;> rename_i hg
  · simp [hg]
  · split <;> rename_i hr
    · simp
    · split <;> rename_i hp
      · simp
      · split <;> rename_i he
        · simp
        · simp [hr, hp, he]

/-- The arbiter owes a grant only to an engine request that waits while it begins a data-port grant. -/
theorem arbitrate_service {s : State} (h : ServiceInv s) : ServiceInv (arbitrate s) := by
  unfold ServiceInv at *
  cases hg : s.arbiter.grant with
  | some g => simpa [arbitrate, hg] using h
  | none =>
    cases ho : s.arbiter.engineOwed with
    | true => simp [hg, ho] at h
    | false =>
      cases hr : s.arbiter.rowRequest <;> cases hp : s.arbiter.portRequest <;>
        cases he : s.arbiter.engineRequest <;>
          simp [arbitrate, State.withArbiter, Grant.isEngine, hg, ho, hr, hp, he]

/-- The scanner's request. -/
theorem requestRow_eq (row : Nat) (s : State) :
    requestRow row s = s.withArbiter (rowAsks row s.pages.shown s.arbiter) := by
  cases hg : s.arbiter.grant <;> simp [requestRow, arbitrate, rowAsks, State.withArbiter, hg]

/-- The host port's request, where no request waits while memory is free. -/
theorem requestPort_eq {s : State} (h : ArbiterBusyInv s) (access : PortAccess) :
    requestPort access s = s.withArbiter (portAsks access s.arbiter) := by
  cases hg : s.arbiter.grant
  · obtain ⟨hr, hp, he⟩ := h hg
    simp [requestPort, arbitrate, portAsks, State.withArbiter, hg, hr, hp, he]
  · simp [requestPort, arbitrate, portAsks, State.withArbiter, hg]

/-- The request of a running engine, where no request waits while memory is free. -/
theorem raiseEngine_eq {s : State} {c : Current} {a : EngineAccess} (h : ArbiterBusyInv s)
    (hState : s.engine.state = .running) (hCurrent : s.engine.current = some c)
    (hNext : c.nextAccess = some a) :
    raiseEngine s = s.withArbiter (engineAsks a s.arbiter) := by
  simp only [raiseEngine, hState, hCurrent, hNext, engineBusy, engineAsks]
  cases hr : s.arbiter.engineRequest <;> cases hg : s.arbiter.grant
  · obtain ⟨hRow, hPort, -⟩ := h hg
    simp [State.withArbiter, arbitrate, hRow, hPort, Option.any]
  · rename_i g
    cases g <;> simp [Grant.isEngine, arbitrate, State.withArbiter]
  · simp [State.withArbiter]
  · simp [State.withArbiter]

/-- The engine raises nothing unless it is running. -/
theorem raiseEngine_of_not_running {s : State} (h : s.engine.state ≠ .running) :
    raiseEngine s = s := by
  unfold raiseEngine
  split <;> simp_all

/-- With no engine access at the arbiter and memory free, the engine's next request is made and the
arbiter serves what waits. -/
theorem arbitrate_raiseEngine {s : State} (hRequest : s.arbiter.engineRequest = none)
    (hGrant : s.arbiter.grant = none) :
    arbitrate (raiseEngine s) =
      arbitrate { s with arbiter := { s.arbiter with engineRequest := nextRequest s } } := by
  have hSame : ({ s.arbiter with engineRequest := none } : Arbiter) = s.arbiter := by
    rw [← hRequest]
  by_cases hState : s.engine.state = .running
  · cases hCurrent : s.engine.current with
    | none => simp [raiseEngine, nextRequest, hState, hCurrent, hSame]
    | some c =>
      cases hNext : c.nextAccess with
      | none =>
        simp [raiseEngine, nextRequest, hState, hCurrent, hNext, engineBusy, hSame]
      | some a =>
        simp only [raiseEngine, nextRequest, hState, hCurrent, hNext, engineBusy, hRequest, hGrant]
        cases s.arbiter.rowRequest <;> cases s.arbiter.portRequest <;>
          simp [arbitrate, State.withArbiter, hNext]
  · simp [raiseEngine_of_not_running hState, nextRequest, hState, hSame]

/-! ## Endings -/

/-- The normal ending of a command is the ending that R50 and R51 give. -/
theorem complete_eq {s : State} {c : Current} (h : s.engine.current = some c) (status : Status)
    (progress : Nat) (clipped held : Bool) :
    complete status progress clipped held s =
      endsNormally (recordDue c.entry status)
        ⟨c.entry.tag, c.entry.kind, status, progress, clipped, held⟩ s := by
  unfold complete
  rw [h]
  rfl

/-- The fault of a command is the ending that R41 gives. -/
theorem faultWith_eq {s : State} {c : Current} (h : s.engine.current = some c) (status : Status) :
    faultWith status s =
      endsInFault ⟨c.entry.tag, c.entry.kind, status, 0, false, c.heldOnce⟩ s := by
  unfold faultWith
  rw [h]
  rfl

/-- An ending acts on the ring and the engine and on nothing else. -/
theorem endsNormally_frame (due : Bool) (r : Record) (s : State) :
    ∃ ring engine, endsNormally due r s = { s with ring := ring, engine := engine } := by
  unfold endsNormally
  split
  · split
    · exact ⟨_, _, rfl⟩
    · exact ⟨s.ring, _, rfl⟩
  · exact ⟨s.ring, _, rfl⟩

/-- A fault acts on the ring and the engine and on nothing else. -/
theorem endsInFault_frame (r : Record) (s : State) :
    ∃ ring engine, endsInFault r s = { s with ring := ring, engine := engine } := by
  unfold endsInFault
  split
  · exact ⟨_, _, rfl⟩
  · exact ⟨s.ring, _, rfl⟩

/-- The normal ending of the current command acts on the ring and the engine and on nothing else. -/
theorem complete_frame (status : Status) (progress : Nat) (clipped held : Bool) (s : State) :
    ∃ ring engine,
      complete status progress clipped held s = { s with ring := ring, engine := engine } := by
  cases h : s.engine.current with
  | none => exact ⟨s.ring, s.engine, by simp [complete, h]⟩
  | some c =>
    rw [complete_eq h]
    exact endsNormally_frame _ _ s

/-! ## Beginning, holding and handing over -/

/-- A COPY or STAMP that has not begun begins with its first access. -/
theorem beginDrawing_eq {s : State} {c : Current} (h : ArbiterBusyInv s)
    (hCurrent : s.engine.current = some c) (hKind : c.entry.kind = .copy ∨ c.entry.kind = .stamp)
    (hProgress : c.progress = 0) (hIndex : c.byteIndex = 0) (hPhase : c.phase = .reading)
    (hByte : c.copyByte = none) :
    beginDrawing s = { s with
      engine := engineBegins c s.engine
      arbiter := engineAsks (firstAccess c.entry) s.arbiter } := by
  have hNext : Current.nextAccess
      { c with clipped := c.entry.kind == .stamp && c.entry.isClipped } =
        some (firstAccess c.entry) := by
    rcases hKind with hk | hk <;>
      simp [Current.nextAccess, firstAccess, hk, hProgress, hIndex, hPhase, hByte,
        Entry.copySource, Entry.copyDestination, Entry.stampSource]
  have hRaise := raiseEngine_eq (s := s.withEngine (engineBegins c s.engine)) h rfl rfl hNext
  simp only [beginDrawing, hCurrent]
  exact hRaise

/-- Holding a command. -/
theorem hold_eq {s : State} {c : Current} (h : s.engine.current = some c) (reason : HoldReason) :
    hold reason s = s.withEngine { s.engine with
      state := .held, holdReason := reason, current := some { c with heldOnce := true } } := by
  simp [hold, h]

/-- Where the hold rule lets the command begin, it begins. -/
theorem holdRule_begins {s : State} {c : Current} (h : s.engine.current = some c)
    (hRule : HoldRuleAllows c.entry s) : holdRule s = beginDrawing s := by
  unfold holdRule
  unfold HoldRuleAllows at hRule
  cases hp : s.pages.pending with
  | none => simp only [hp] at hRule; rcases hRule with hr | hr <;> simp [h, hr]
  | some q => simp only [hp] at hRule; simp [h, hRule.1, hRule.2]

/-- With a present pending, a command the hold rule keeps back is held with reason PAGE. -/
theorem holdRule_holds {s : State} {c : Current} (h : s.engine.current = some c)
    (hRule : ¬ HoldRuleAllows c.entry s) (hPending : s.pages.pending.isSome = true) :
    holdRule s = hold .page s := by
  unfold holdRule
  unfold HoldRuleAllows at hRule
  cases hp : s.pages.pending with
  | none => simp [hp] at hPending
  | some q =>
    simp only [hp] at hRule
    have hTouch : (c.entry.touches q || c.entry.touches s.pages.shown) = true := by
      cases h1 : c.entry.touches q <;> cases h2 : c.entry.touches s.pages.shown <;> simp_all
    simp [h, hTouch]

/-- With none pending, it faults SHOWN_PAGE. -/
theorem holdRule_faults {s : State} {c : Current} (h : s.engine.current = some c)
    (hRule : ¬ HoldRuleAllows c.entry s) (hPending : s.pages.pending = none) :
    holdRule s = faultWith .shownPage s := by
  unfold holdRule
  unfold HoldRuleAllows at hRule
  simp only [hPending] at hRule
  have hBoth : (scanRunning s && c.entry.touches s.pages.shown) = true := by
    cases h1 : scanRunning s <;> cases h2 : c.entry.touches s.pages.shown <;> simp_all
  simp [h, hPending, hBoth]

/-- The hand-over of a PRESENT acts on the presentation unit, the ring and the engine alone. -/
theorem handOver_frame (s : State) : ∃ ring engine pages,
    handOver s = { s with ring := ring, engine := engine, pages := pages } := by
  unfold handOver
  split
  · exact ⟨s.ring, s.engine, s.pages, rfl⟩
  · rename_i c hc
    split
    · simp only
      split
      · exact ⟨s.ring, _, _, rfl⟩
      · obtain ⟨ring, engine, h⟩ := complete_frame .done 0 false c.heldOnce
          (s.withPages { s.pages with pending := some c.entry.presentPage })
        exact ⟨ring, engine, _, h⟩
    · obtain ⟨ring, engine, h⟩ := complete_frame .done 0 false c.heldOnce
        (s.withPages { s.pages with shown := c.entry.presentPage })
      exact ⟨ring, engine, _, h⟩

/-- The switch: a pending page becomes the shown page. -/
theorem switchPage_eq (s : State) : switchPage s = { s with
    pages := match s.pages.pending with
      | some p => ⟨p, none⟩
      | none => s.pages } := by
  cases h : s.pages.pending <;> simp [switchPage, h, State.withPages]

/-- A pair boundary or a stop of the scan does nothing at an engine that neither waits nor is held over a
switch. -/
theorem engineTakesScanEvent_idle {s : State} (counted stopped switched : Bool)
    (hWaiting : s.engine.state ≠ .waiting) (hHeld : s.engine.state = .held → switched = false) :
    engineTakesScanEvent counted stopped switched s = s := by
  unfold engineTakesScanEvent
  split
  · rename_i h _; exact absurd h hWaiting
  · rename_i h _; simp [hHeld h]
  · rfl

/-! ## The takes -/

/-- A take of the head entry: the fault of the first check that fails, or the disposal of its kind. -/
theorem takeAnd_eq {s : State} {e : Entry} {rest : List Entry} (hIdle : s.engine.state = .idle)
    (hQueue : s.queue = e :: rest) (dispose : Entry → State → State) :
    takeAnd e.kind dispose s =
      match e.check with
      | some f => faultWith f (taken e rest s)
      | none => dispose e (taken e rest s) := by
  have hTake : takeHead e.kind s = some (e, taken e rest s) := by
    unfold takeHead
    rw [hIdle, hQueue]
    exact if_pos rfl
  cases hCheck : e.check <;> simp [takeAnd, hTake, hCheck]

/-- A take that finds the engine elsewhere than in IDLE takes nothing. -/
theorem takeAnd_of_not_idle {s : State} (h : s.engine.state ≠ .idle) (k : Kind)
    (dispose : Entry → State → State) : takeAnd k dispose s = s := by
  have hTake : takeHead k s = none := by
    unfold takeHead
    split
    · rename_i heq _; exact absurd heq h
    · rfl
  simp [takeAnd, hTake]

/-- A take from an empty queue takes nothing. -/
theorem takeAnd_of_empty {s : State} (h : s.queue = []) (k : Kind)
    (dispose : Entry → State → State) : takeAnd k dispose s = s := by
  have hTake : takeHead k s = none := by
    unfold takeHead
    split
    · rename_i heq; simp [h] at heq
    · rfl
  simp [takeAnd, hTake]

/-! ## The panel and the stop of the scan -/

/-- The entry to DISCHARGING. -/
theorem enterDischarging_eq (s : State) : enterDischarging s = { s with
    panel := { s.panel with
      state := .discharging
      pending := .none
      showAfterCharge := false
      chargeTimer := none
      dischargeTimer := some 1024
      contrastActual := 0#5 }
    irq := { s.irq with panel := true } } := rfl

/-- The end of the drive at a stop of the scan. -/
theorem stopDrive_eq (s : State) : stopDrive s = { s with
    scanner := { s.scanner with polarity := .positive, row := 0, tick := 0 }
    compositor := { s.compositor with rowDots := none }
    arbiter := s.arbiter.discardRow } := rfl

/-- The start of a row: position, drive and latch request. -/
theorem startRow_eq (polarity : Polarity) (row : Nat) (s : State) : startRow polarity row s = { s with
    scanner := { s.scanner with polarity := polarity, row := row, tick := 0 }
    compositor := { s.compositor with rowDots := none }
    arbiter := rowAsks row s.pages.shown s.arbiter } := by
  rw [startRow, requestRow_eq]
  rfl

end Sys2Proof.Machine
end

