-- ==== Sys2Proof/Laws/PerInstr.lean ====
section
/-! SUPPORT. The family `BusRoundTrip`, one lemma for each command: a well-formed command that is a host
write is the command of the write it is read back as (R163, Table 10-1). -/

open Sys2Proof Sys2Proof.Machine

/-- A well-formed command that is a host write is the command of its write. -/
def Sys2Proof.Laws.BusRoundTrip.Statement (c : Sys2Proof.Instr) : Prop :=
  c.wellFormed = true → ∀ o v, busWrite c = some (o, v) → writeCommand o v = c

/-- The statement of a command that is a host write, from its write alone. -/
theorem Sys2Proof.Laws.busRoundTrip_of_write {c : Sys2Proof.Instr} {o : BitVec 6} {v : Sys2Proof.Byte}
    (hWrite : busWrite c = some (o, v)) (hBack : c.wellFormed = true → writeCommand o v = c) :
    Sys2Proof.Laws.BusRoundTrip.Statement c := by
  intro hw o' v' h
  rw [hWrite] at h
  cases h
  exact hBack hw

/-- The statement of a command that is no host write. -/
theorem Sys2Proof.Laws.busRoundTrip_of_noWrite {c : Sys2Proof.Instr} (hNone : busWrite c = none) :
    Sys2Proof.Laws.BusRoundTrip.Statement c := by
  intro _ o v h
  rw [hNone] at h
  cases h

/-- An unassigned engine request code is read back as itself. -/
theorem Sys2Proof.Laws.engineRequestCommand_unassigned (code : Sys2Proof.Byte)
    (hw : (Sys2Proof.Instr.unassignedEngineRequest code).wellFormed = true) :
    engineRequestCommand code = .unassignedEngineRequest code := by
  simp only [Sys2Proof.Instr.wellFormed, Bool.or_eq_true, beq_iff_eq, decide_eq_true_eq] at hw
  unfold engineRequestCommand
  split <;> first | rfl | omega

/-- An unassigned panel request code is read back as itself. -/
theorem Sys2Proof.Laws.panelRequestCommand_unassigned (code : Sys2Proof.Byte)
    (hw : (Sys2Proof.Instr.unassignedPanelRequest code).wellFormed = true) :
    panelRequestCommand code = .unassignedPanelRequest code := by
  simp only [Sys2Proof.Instr.wellFormed, Bool.or_eq_true, beq_iff_eq, decide_eq_true_eq] at hw
  unfold panelRequestCommand
  split <;> first | rfl | omega

/-- A write at an offset that has no row of its own is read back as a plain register write. -/
theorem Sys2Proof.Laws.writeCommand_plain (offset : BitVec 6) (v : Sys2Proof.Byte)
    (hw : (Sys2Proof.Instr.registerWrite offset v).wellFormed = true) :
    writeCommand offset v = .registerWrite offset v := by
  have key : ∀ (p : BitVec 6), ownRowOffsets.contains p = false → p.toNat ≠ 0x06 ∧ p.toNat ≠ 0x07 ∧
      p.toNat ≠ 0x08 ∧ p.toNat ≠ 0x1B ∧ p.toNat ≠ 0x20 ∧ p.toNat ≠ 0x21 ∧ p.toNat ≠ 0x23 ∧
      p.toNat ≠ 0x28 ∧ p.toNat ≠ 0x2B ∧ p.toNat ≠ 0x2D ∧ p.toNat ≠ 0x2E ∧ p.toNat ≠ 0x2F ∧
      p.toNat ≠ 0x30 := by decide
  have hOff := key offset (by simpa [Sys2Proof.Instr.wellFormed] using hw)
  unfold writeCommand
  split <;> first | rfl | omega

theorem Sys2Proof.Laws.BusRoundTrip.push (v : Sys2Proof.Byte) :
    Sys2Proof.Laws.BusRoundTrip.Statement (.push v) :=
  Sys2Proof.Laws.busRoundTrip_of_write rfl fun _ => rfl

theorem Sys2Proof.Laws.BusRoundTrip.copy :
    Sys2Proof.Laws.BusRoundTrip.Statement .copy :=
  Sys2Proof.Laws.busRoundTrip_of_noWrite rfl

theorem Sys2Proof.Laws.BusRoundTrip.stamp :
    Sys2Proof.Laws.BusRoundTrip.Statement .stamp :=
  Sys2Proof.Laws.busRoundTrip_of_noWrite rfl

theorem Sys2Proof.Laws.BusRoundTrip.present :
    Sys2Proof.Laws.BusRoundTrip.Statement .present :=
  Sys2Proof.Laws.busRoundTrip_of_noWrite rfl

theorem Sys2Proof.Laws.BusRoundTrip.zone :
    Sys2Proof.Laws.BusRoundTrip.Statement .zone :=
  Sys2Proof.Laws.busRoundTrip_of_noWrite rfl

theorem Sys2Proof.Laws.BusRoundTrip.wait :
    Sys2Proof.Laws.BusRoundTrip.Statement .wait :=
  Sys2Proof.Laws.busRoundTrip_of_noWrite rfl

theorem Sys2Proof.Laws.BusRoundTrip.mark :
    Sys2Proof.Laws.BusRoundTrip.Statement .mark :=
  Sys2Proof.Laws.busRoundTrip_of_noWrite rfl

theorem Sys2Proof.Laws.BusRoundTrip.pause :
    Sys2Proof.Laws.BusRoundTrip.Statement .pause :=
  Sys2Proof.Laws.busRoundTrip_of_write rfl fun _ => rfl

theorem Sys2Proof.Laws.BusRoundTrip.resume :
    Sys2Proof.Laws.BusRoundTrip.Statement .resume :=
  Sys2Proof.Laws.busRoundTrip_of_write rfl fun _ => rfl

theorem Sys2Proof.Laws.BusRoundTrip.abort :
    Sys2Proof.Laws.BusRoundTrip.Statement .abort :=
  Sys2Proof.Laws.busRoundTrip_of_write rfl fun _ => rfl

theorem Sys2Proof.Laws.BusRoundTrip.continueHalted :
    Sys2Proof.Laws.BusRoundTrip.Statement .continueHalted :=
  Sys2Proof.Laws.busRoundTrip_of_write rfl fun _ => rfl

theorem Sys2Proof.Laws.BusRoundTrip.flush :
    Sys2Proof.Laws.BusRoundTrip.Statement .flush :=
  Sys2Proof.Laws.busRoundTrip_of_write rfl fun _ => rfl

theorem Sys2Proof.Laws.BusRoundTrip.engineReset :
    Sys2Proof.Laws.BusRoundTrip.Statement .engineReset :=
  Sys2Proof.Laws.busRoundTrip_of_write rfl fun _ => rfl

theorem Sys2Proof.Laws.BusRoundTrip.pop :
    Sys2Proof.Laws.BusRoundTrip.Statement .pop :=
  Sys2Proof.Laws.busRoundTrip_of_write rfl fun _ => rfl

theorem Sys2Proof.Laws.BusRoundTrip.unassignedEngineRequest (code : Sys2Proof.Byte) :
    Sys2Proof.Laws.BusRoundTrip.Statement (.unassignedEngineRequest code) :=
  Sys2Proof.Laws.busRoundTrip_of_write rfl (Sys2Proof.Laws.engineRequestCommand_unassigned code)

theorem Sys2Proof.Laws.BusRoundTrip.powerOn :
    Sys2Proof.Laws.BusRoundTrip.Statement .powerOn :=
  Sys2Proof.Laws.busRoundTrip_of_write rfl fun _ => rfl

theorem Sys2Proof.Laws.BusRoundTrip.showPicture :
    Sys2Proof.Laws.BusRoundTrip.Statement .showPicture :=
  Sys2Proof.Laws.busRoundTrip_of_write rfl fun _ => rfl

theorem Sys2Proof.Laws.BusRoundTrip.blankPicture :
    Sys2Proof.Laws.BusRoundTrip.Statement .blankPicture :=
  Sys2Proof.Laws.busRoundTrip_of_write rfl fun _ => rfl

theorem Sys2Proof.Laws.BusRoundTrip.powerOff :
    Sys2Proof.Laws.BusRoundTrip.Statement .powerOff :=
  Sys2Proof.Laws.busRoundTrip_of_write rfl fun _ => rfl

theorem Sys2Proof.Laws.BusRoundTrip.unassignedPanelRequest (code : Sys2Proof.Byte) :
    Sys2Proof.Laws.BusRoundTrip.Statement (.unassignedPanelRequest code) :=
  Sys2Proof.Laws.busRoundTrip_of_write rfl (Sys2Proof.Laws.panelRequestCommand_unassigned code)

theorem Sys2Proof.Laws.BusRoundTrip.spaceThreshold (v : Sys2Proof.Byte) :
    Sys2Proof.Laws.BusRoundTrip.Statement (.spaceThreshold v) :=
  Sys2Proof.Laws.busRoundTrip_of_write rfl fun _ => rfl

theorem Sys2Proof.Laws.BusRoundTrip.scanConfig (v : Sys2Proof.Byte) :
    Sys2Proof.Laws.BusRoundTrip.Statement (.scanConfig v) :=
  Sys2Proof.Laws.busRoundTrip_of_write rfl fun _ => rfl

theorem Sys2Proof.Laws.BusRoundTrip.blinkWrite (g : Sys2Proof.BlinkGroup) (v : Sys2Proof.Byte) :
    Sys2Proof.Laws.BusRoundTrip.Statement (.blinkWrite g v) :=
  match g with
  | .a => Sys2Proof.Laws.busRoundTrip_of_write rfl fun _ => rfl
  | .b => Sys2Proof.Laws.busRoundTrip_of_write rfl fun _ => rfl

theorem Sys2Proof.Laws.BusRoundTrip.supplyWrite (v : Sys2Proof.Byte) :
    Sys2Proof.Laws.BusRoundTrip.Statement (.supplyWrite v) :=
  Sys2Proof.Laws.busRoundTrip_of_write rfl fun _ => rfl

theorem Sys2Proof.Laws.BusRoundTrip.irqStatusClear (g : Sys2Proof.ByteSel) (v : Sys2Proof.Byte) :
    Sys2Proof.Laws.BusRoundTrip.Statement (.irqStatusClear g v) :=
  match g with
  | .lo => Sys2Proof.Laws.busRoundTrip_of_write rfl fun _ => rfl
  | .hi => Sys2Proof.Laws.busRoundTrip_of_write rfl fun _ => rfl

theorem Sys2Proof.Laws.BusRoundTrip.irqEnable (g : Sys2Proof.ByteSel) (v : Sys2Proof.Byte) :
    Sys2Proof.Laws.BusRoundTrip.Statement (.irqEnable g v) :=
  match g with
  | .lo => Sys2Proof.Laws.busRoundTrip_of_write rfl fun _ => rfl
  | .hi => Sys2Proof.Laws.busRoundTrip_of_write rfl fun _ => rfl

theorem Sys2Proof.Laws.BusRoundTrip.portDataRead :
    Sys2Proof.Laws.BusRoundTrip.Statement .portDataRead :=
  Sys2Proof.Laws.busRoundTrip_of_noWrite rfl

theorem Sys2Proof.Laws.BusRoundTrip.portDataWrite (v : Sys2Proof.Byte) :
    Sys2Proof.Laws.BusRoundTrip.Statement (.portDataWrite v) :=
  Sys2Proof.Laws.busRoundTrip_of_write rfl fun _ => rfl

theorem Sys2Proof.Laws.BusRoundTrip.frameCountLoRead :
    Sys2Proof.Laws.BusRoundTrip.Statement .frameCountLoRead :=
  Sys2Proof.Laws.busRoundTrip_of_noWrite rfl

theorem Sys2Proof.Laws.BusRoundTrip.registerWrite (offset : BitVec 6) (v : Sys2Proof.Byte) :
    Sys2Proof.Laws.BusRoundTrip.Statement (.registerWrite offset v) :=
  Sys2Proof.Laws.busRoundTrip_of_write rfl (Sys2Proof.Laws.writeCommand_plain offset v)

theorem Sys2Proof.Laws.BusRoundTrip.rowLatch :
    Sys2Proof.Laws.BusRoundTrip.Statement .rowLatch :=
  Sys2Proof.Laws.busRoundTrip_of_noWrite rfl

theorem Sys2Proof.Laws.BusRoundTrip.dataPortGrant :
    Sys2Proof.Laws.BusRoundTrip.Statement .dataPortGrant :=
  Sys2Proof.Laws.busRoundTrip_of_noWrite rfl

theorem Sys2Proof.Laws.BusRoundTrip.copySourceRead :
    Sys2Proof.Laws.BusRoundTrip.Statement .copySourceRead :=
  Sys2Proof.Laws.busRoundTrip_of_noWrite rfl

theorem Sys2Proof.Laws.BusRoundTrip.copyDestinationWrite :
    Sys2Proof.Laws.BusRoundTrip.Statement .copyDestinationWrite :=
  Sys2Proof.Laws.busRoundTrip_of_noWrite rfl

theorem Sys2Proof.Laws.BusRoundTrip.stampSourceRead :
    Sys2Proof.Laws.BusRoundTrip.Statement .stampSourceRead :=
  Sys2Proof.Laws.busRoundTrip_of_noWrite rfl

theorem Sys2Proof.Laws.BusRoundTrip.stampReadModifyWrite :
    Sys2Proof.Laws.BusRoundTrip.Statement .stampReadModifyWrite :=
  Sys2Proof.Laws.busRoundTrip_of_noWrite rfl

theorem Sys2Proof.Laws.BusRoundTrip.rowChange :
    Sys2Proof.Laws.BusRoundTrip.Statement .rowChange :=
  Sys2Proof.Laws.busRoundTrip_of_noWrite rfl

theorem Sys2Proof.Laws.BusRoundTrip.frameBoundary :
    Sys2Proof.Laws.BusRoundTrip.Statement .frameBoundary :=
  Sys2Proof.Laws.busRoundTrip_of_noWrite rfl

theorem Sys2Proof.Laws.BusRoundTrip.pairBoundary :
    Sys2Proof.Laws.BusRoundTrip.Statement .pairBoundary :=
  Sys2Proof.Laws.busRoundTrip_of_noWrite rfl

theorem Sys2Proof.Laws.BusRoundTrip.chargeExpiry :
    Sys2Proof.Laws.BusRoundTrip.Statement .chargeExpiry :=
  Sys2Proof.Laws.busRoundTrip_of_noWrite rfl

theorem Sys2Proof.Laws.BusRoundTrip.dischargeExpiry :
    Sys2Proof.Laws.BusRoundTrip.Statement .dischargeExpiry :=
  Sys2Proof.Laws.busRoundTrip_of_noWrite rfl

theorem Sys2Proof.Laws.BusRoundTrip.sample (mv : Nat) :
    Sys2Proof.Laws.BusRoundTrip.Statement (.sample mv) :=
  Sys2Proof.Laws.busRoundTrip_of_noWrite rfl

theorem Sys2Proof.Laws.BusRoundTrip.deviceReset :
    Sys2Proof.Laws.BusRoundTrip.Statement .deviceReset :=
  Sys2Proof.Laws.busRoundTrip_of_noWrite rfl

theorem Sys2Proof.Laws.BusRoundTrip.resetRelease :
    Sys2Proof.Laws.BusRoundTrip.Statement .resetRelease :=
  Sys2Proof.Laws.busRoundTrip_of_noWrite rfl

theorem Sys2Proof.Laws.BusRoundTrip.powerOnReset :
    Sys2Proof.Laws.BusRoundTrip.Statement .powerOnReset :=
  Sys2Proof.Laws.busRoundTrip_of_noWrite rfl

theorem Sys2Proof.Laws.BusRoundTrip.supplyRise :
    Sys2Proof.Laws.BusRoundTrip.Statement .supplyRise :=
  Sys2Proof.Laws.busRoundTrip_of_noWrite rfl

theorem Sys2Proof.Laws.BusRoundTrip.powerOnRelease :
    Sys2Proof.Laws.BusRoundTrip.Statement .powerOnRelease :=
  Sys2Proof.Laws.busRoundTrip_of_noWrite rfl
end

