-- ==== Sys2Proof/Tests/Slice0.lean ====
section
/-! SUPPORT. Our own tests: ill-formed terms that WellFormed refuses, single steps whose expected results
stand in the specification's tables and examples, and for each statement with hypotheses a state and
operands that meet them. -/

namespace Sys2Proof.Tests

open Sys2Proof Sys2Proof.Machine

/-! ## Small states -/

/-- The state a command leaves. -/
def after (c : Instr) (s : State) : State :=
  match exec c s with
  | .next t => t
  | .fault _ | .refused _ => s

/-- The reset state with entries in its command queue. -/
def queued (entries : List Entry) : State := { State.reset with queue := entries }

/-- `s` with the panel in state `p` and the scanner in row 15, the last, of a negative frame. -/
def atPanel (p : PanelState) (s : State) : State :=
  { s with
    panel := { s.panel with state := p }
    scanner := { s.scanner with polarity := .negative, row := 15 } }

/-- `s` with an engine in state `g`, a current command and a hold reason. -/
def atEngine (g : EngineState) (c : Option Current) (h : HoldReason) (s : State) : State :=
  { s with engine := { s.engine with state := g, current := c, holdReason := h } }

/-- `s` with page `shown` shown and `q` pending. -/
def atPages (shown : Fin 4) (q : Option (Fin 4)) (s : State) : State := { s with pages := ⟨shown, q⟩ }

/-- `s` with a grant in progress. -/
def atGrant (g : Grant) (s : State) : State :=
  { s with arbiter := { s.arbiter with grant := some g } }

/-- A COPY of `n` bytes from work memory to `destination`. -/
def copyEntry (destination : Word) (n : Word) : Entry :=
  ⟨.copy, 40#8, 0#7, 0#16, destination, n, 0#8, 0#8⟩

/-- A STAMP of one dot at the first dot of page `page`. -/
def stampEntry (page : Byte) : Entry :=
  ⟨.stamp, 41#8, 0#7, 0#16, page ++ 1#8, 0x0101#16, 0#8, 0#8⟩

/-- A PRESENT of page 2 with the flags `flags`. -/
def presentEntry (flags : BitVec 7) : Entry := ⟨.present, 51#8, flags, 0#16, 0#16, 0#16, 2#8, 0#8⟩

/-- A WAIT of `n` boundaries with NOTIFY. -/
def waitEntry (n : Byte) : Entry := ⟨.wait, 50#8, 1#7, 0#16, 0#16, 0#16, n, 0#8⟩

/-- A MARK. -/
def markEntry : Entry := ⟨.mark, 31#8, 0#7, 0#16, 0#16, 0#16, 0#8, 0#8⟩

/-- A ZONE over the whole page. -/
def zoneEntry : Entry := ⟨.zone, 7#8, 0#7, 0x3F00#16, 0x1300#16, 0#16, 7#8, 1#8⟩

/-- A current command that has been held. -/
def heldOf (e : Entry) : Current := { Current.ofEntry e with heldOnce := true }

/-- A record of the ring. -/
def aRecord (tag : Byte) : Record := ⟨tag, .mark, .done, 0, false, false⟩

/-- A ring of 8 records, tags 1 to 8. -/
def fullRing : List Record :=
  [aRecord 1#8, aRecord 2#8, aRecord 3#8, aRecord 4#8, aRecord 5#8, aRecord 6#8, aRecord 7#8,
    aRecord 8#8]

/-! ## WellFormed: each check refuses an ill-formed term and admits the values at its edge -/

theorem test_wf_engine_code :
    (Instr.unassignedEngineRequest 1#8).wellFormed = false ∧
    (Instr.unassignedEngineRequest 7#8).wellFormed = false ∧
    (Instr.unassignedEngineRequest 0#8).wellFormed = true ∧
    (Instr.unassignedEngineRequest 8#8).wellFormed = true := by decide

theorem test_wf_panel_code :
    (Instr.unassignedPanelRequest 1#8).wellFormed = false ∧
    (Instr.unassignedPanelRequest 4#8).wellFormed = false ∧
    (Instr.unassignedPanelRequest 0#8).wellFormed = true ∧
    (Instr.unassignedPanelRequest 5#8).wellFormed = true := by decide

theorem test_wf_register_with_own_row :
    (Instr.registerWrite 0x08#6 1#8).wellFormed = false ∧
    (Instr.registerWrite 0x30#6 1#8).wellFormed = false ∧
    (Instr.registerWrite 0x09#6 1#8).wellFormed = true := by decide

theorem test_wf_sample_below_operation :
    (Instr.sample 1999).wellFormed = false ∧ (Instr.sample 2000).wellFormed = true := by decide

/-! ## Single steps, from the specification's tables and examples -/

/-- Section 1.1.2: dot (5, 13) of page 2 is bit 2 of the byte at 0D69h. -/
theorem test_dot_address : dotAddress 2 5 13 = 0x0D69 ∧ dotBit 13 = 2 := by decide

/-- Section 1.1.2: dot (19, 63) of page 3 is in the last mapped byte, 0E7Fh; 0CA7h is in page 1. -/
theorem test_last_page_byte :
    dotAddress 3 19 63 = 0x0E7F ∧ mapped 0x0E7F = true ∧ mapped 0x0E80 = false ∧
      pageOf 0x0CA7 = some 1 := by decide

/-- Table 10-1: ID reads C4h and IRQ_STATUS reads 0Ah and 00h after device reset. -/
theorem test_reset_registers :
    readRegister State.reset 0x00#6 = 0xC4#8 ∧ readRegister State.reset 0x2D#6 = 0x0A#8 ∧
      readRegister State.reset 0x2E#6 = 0x00#8 := by decide

/-- Table 10-5: decodes of ENGINE_STATE, PANEL_STATE, SCAN_POSITION, SCAN_CONFIG and BLINK_A. -/
theorem test_example_decodes :
    (let s := atEngine .paused (some (heldOf (presentEntry 0#7))) .present State.reset;
      readRegister s 0x02#6 = 0x57#8) ∧
    (let s := atPanel .showing State.reset;
      readRegister { s with
        panel := { s.panel with pending := .blank }
        scanner := { s.scanner with row := 19 } } 0x24#6 = 0x13#8 ∧
      readRegister { s with scanner := { s.scanner with row := 19 } } 0x1D#6 = 0x73#8) ∧
    readRegister (after (.scanConfig 0xFF#8) State.reset) 0x1C#6 = 0x1F#8 ∧
    (after (.blinkWrite .a 0x20#8) State.reset).compositor.blinkA.active = ⟨0#4, 2#4⟩ := by decide

/-- Table 4-1: range checks of a COPY. -/
theorem test_copy_checks :
    (⟨.copy, 0#8, 0#7, 0x0E00#16, 0x0100#16, 160#16, 0#8, 0#8⟩ : Entry).check = some .sourceRange ∧
    (⟨.copy, 0#8, 4#7, 0x0BFF#16, 0x0C00#16, 640#16, 0#8, 0#8⟩ : Entry).check = none ∧
    (⟨.copy, 0#8, 4#7, 0x0BFF#16, 0x0C01#16, 640#16, 0#8, 0#8⟩ : Entry).check = some .destRange ∧
    (⟨.copy, 0#8, 0#7, 0xFFF0#16, 0#16, 32#16, 0#8, 0#8⟩ : Entry).check = some .sourceRange ∧
    (⟨.copy, 0#8, 12#7, 0x0200#16, 0x0E7F#16, 4096#16, 0#8, 0#8⟩ : Entry).check = none ∧
    (⟨.copy, 0#8, 0#7, 0x0100#16, 0x0200#16, 0#16, 0#8, 0#8⟩ : Entry).check = some .parameter := by
  decide

/-- Table 3-2: the pages a COPY destination touches. -/
theorem test_copy_pages :
    (List.finRange 4).map (copyEntry 0x0BF0#16 32#16).touches = [true, false, false, false] ∧
    (List.finRange 4).map (copyEntry 0x0C90#16 32#16).touches = [true, true, false, false] ∧
    (List.finRange 4).map (copyEntry 0x0100#16 512#16).touches = [false, false, false, false] := by
  decide

/-- Table 11-3: the COPY with count 0 and a full ring is FAULT_PENDING, ENGINE_STATE reads 15h and
CURRENT_TAG 30. -/
theorem test_fault_with_a_full_ring :
    let t := after .copy { queued [⟨.copy, 30#8, 1#7, 0#16, 0#16, 0#16, 0#8, 0#8⟩] with ring := fullRing }
    t.engine.state = .faultPending ∧ readRegister t 0x02#6 = 0x15#8 ∧
      readRegister t 0x05#6 = 30#8 := by decide

/-- Table 11-3: POP then writes record 30 behind tags 2 to 8, and the engine is HALTED. -/
theorem test_pop_writes_the_waiting_record :
    let t := after .pop (after .copy
      { queued [⟨.copy, 30#8, 1#7, 0#16, 0#16, 0#16, 0#8, 0#8⟩] with ring := fullRing })
    t.engine.state = .halted ∧ t.ring.map Record.tag = [2#8, 3#8, 4#8, 5#8, 6#8, 7#8, 8#8, 30#8] := by
  decide

/-- Table 11-4: the abort noted at byte 1200 ends the fill ABORTED with progress 1201, its record written
without NOTIFY. -/
theorem test_aborted_fill :
    let c := { Current.ofEntry ⟨.copy, 40#8, 4#7, 0#16, 0x10#16, 3056#16, 0#8, 0#8⟩ with
      progress := 1200, copyByte := some 0xFF#8, abortNoted := true }
    let t := after .copyDestinationWrite
      (atGrant (.engine ⟨.copyWrite 0x04C0 0xFF#8, false⟩)
        (atEngine .running (some c) .none State.reset))
    t.ring = [⟨40#8, .copy, .aborted, 1201, false, false⟩] ∧ t.engine.state = .idle ∧
      byteAt t 0x04C0 = 0xFF#8 := by decide

/-- Table 11-5, tick 512: the WAIT ends NO_SCAN with progress 3, the panel is DISCHARGING with SUPPLY and
PANEL latched, and the take of the PRESENT, which follows, shows page 2. -/
theorem test_supply_dip :
    let s := { atPages 1 none (atPanel .showing (atEngine .waiting
        (some { Current.ofEntry (waitEntry 10#8) with progress := 3 }) .none
        (queued [presentEntry 0#7]))) with supply := ⟨true, .ok, some .low, 0, 3300⟩ }
    let t := after (.sample 2300) s
    t.ring = [⟨50#8, .wait, .noScan, 3, false, false⟩] ∧ t.panel.state = .discharging ∧
      (t.irq.supply && t.irq.panel) = true ∧ (after .present t).pages = ⟨2, none⟩ := by decide

/-- Table 11-2, PB 1: page 1 is shown, the WAIT_SHOWN PRESENT is DONE with its record in the ring, and the
STAMP into page 0 is taken and runs. -/
theorem test_animation_switch :
    let e : Entry := ⟨.present, 2#8, 0x41#7, 0#16, 0#16, 0#16, 1#8, 0#8⟩
    let t := after .pairBoundary (atPages 0 (some 1) (atPanel .showing
      (atEngine .waiting (some (Current.ofEntry e)) .none (queued [stampEntry 0#8]))))
    t.pages = ⟨1, none⟩ ∧ t.ring = [⟨2#8, .present, .done, 0, false, false⟩] ∧
      (after .stamp t).engine.state = .running := by decide

/-- Section 9.3.1: with step +8 the write at FFF8h is dropped and latches ACCESS with the pointer at 0000h
after it, and the next is granted, stores AAh at 0000h and leaves the pointer at 0008h. -/
theorem test_port_run_past_the_end :
    let s := { State.reset with port := { State.reset.port with pointer := 0xFFF8#16, step := .eight } }
    let t := after (.portDataWrite 0xAA#8) s
    let u := after .dataPortGrant (after (.portDataWrite 0xAA#8) t)
    t.port.pointer = 0#16 ∧ t.irq.access = true ∧ t.memory = [] ∧ byteAt u 0 = 0xAA#8 ∧
      u.port.pointer = 8#16 := by decide

/-- Section 1.2.2: a LIVE STAMP with SET that sets dot (5, 13) of page 2 leaves the other dots of 0D69h. -/
theorem test_stamp_set :
    StampOperator.set.combine 0x81#8
      (Entry.stampMask ⟨.stamp, 1#8, 0x12#7, 0#16, 0x0201#16, 0x0101#16, 13#8, 5#8⟩ 0)
      (Entry.stampBits ⟨.stamp, 1#8, 0x12#7, 0#16, 0x0201#16, 0x0101#16, 13#8, 5#8⟩ [0x80#8] 0) =
        0x85#8 := by decide

/-- R161: a cycle with both strobes is a read if nRD fell first, and otherwise no access. -/
theorem test_bus_cycle :
    BusCycle.access ⟨true, true, true, .read, 0x03#6, 0#8⟩ = some (.read 0x03#6) ∧
      BusCycle.access ⟨true, true, true, .write, 0x03#6, 0#8⟩ = none ∧
      BusCycle.access ⟨true, true, true, .together, 0x03#6, 0#8⟩ = none ∧
      BusCycle.access ⟨false, false, true, .write, 0x03#6, 0#8⟩ = none := by decide

/-- R9: a COPY that waits while a data-port grant begins is granted before the next data-port grant, also
where a row latch comes between. -/
theorem test_engine_turn_between_port_grants :
    let copy := atEngine .running (some (Current.ofEntry (copyEntry 0x0100#16 1#16))) .none
      (atPanel .blanked State.reset)
    let first := { copy with arbiter := ⟨some (.port (.read 0)), some ⟨15, false⟩, none,
      some ⟨.copyRead 0 0x0100, false⟩, true⟩ }
    let next := after (.portDataWrite 1#8) (after .dataPortGrant first)
    (after .dataPortGrant first).arbiter.grant = some (.row ⟨15, false⟩ 0) ∧
      next.arbiter.grant = some (.engine ⟨.copyRead 0 0x0100, false⟩) ∧
      next.arbiter.portRequest = some (.write 0 1#8) := by decide

/-- R121: a frame ends with the common period of row N - 1 and at no other row. -/
theorem test_frame_ends_at_its_last_row :
    (let s := atPanel .showing State.reset;
      let t := { s with scanner := { s.scanner with row := 14 } };
      after .pairBoundary t = t ∧ after .pairBoundary s ≠ s) ∧
    (let s := atPanel .showing State.reset;
      let t := { s with scanner := { s.scanner with polarity := .positive, row := 0 } };
      after .frameBoundary t = t) := by decide

/-- R127 and the table of R144: a SHOWING dot that is on, and the commons, in the polarity of the
frame. -/
theorem test_drive_polarity :
    let s := atPanel .showing State.reset
    let t := { s with compositor := { s.compositor with rowDots := some 1#64 } }
    segmentDrive t 0 = .dotOn .negative ∧ segmentDrive t 1 = .dotOff .negative ∧
      commonDrive t 15 = .selected .negative ∧ commonDrive t 14 = .unselected .negative ∧
      biasDrive (atPanel .discharging State.reset) = .draining := by decide

/-- R162: a read is an event: the port write before it has ended and the take it let follow has been
taken, so that the WAIT it shows counts the next pair boundary. -/
theorem test_read_is_an_event :
    let c := { Current.ofEntry (copyEntry 0x0100#16 1#16) with copyByte := some 5#8 }
    let s := atGrant (.engine ⟨.copyWrite 0x0100 5#8, false⟩) (atEngine .running (some c) .none
      (atPanel .showing (queued [waitEntry 2#8])))
    let read := hostRead 0x05#6 { s with arbiter := { s.arbiter with portRequest := some (.write 0 9#8) } }
    read.2 = some 50#8 ∧ byteAt read.1 0 = 9#8 ∧
      ((after .pairBoundary read.1).engine.current.map Current.progress) = some 1 := by decide

/-- R16, R162 and R182: the COPY byte in progress at an ENGINE_RESET is finished before the next push, and so
before a PRESENT of its page can be taken. -/
theorem test_dropped_byte_ends_before_the_next_access :
    let s := atGrant (.engine ⟨.copyRead 0 0x0CA0, false⟩) (atEngine .running
      (some (Current.ofEntry (copyEntry 0x0CA0#16 2#16))) .none
      (atPanel .showing { State.reset with memory := [(0, 0x5A#8)] }))
    let t := after .engineReset s
    droppedOutstanding t = true ∧ droppedOutstanding (after (.push 3#8) t) = false ∧
      byteAt (after (.push 3#8) t) 0x0CA0 = 0x5A#8 := by decide

/-- R168: a read of PORT_DATA returns the byte at the pointer in its own cycle. -/
theorem test_port_read_in_one_cycle :
    (hostRead 0x2B#6 { State.reset with memory := [(0, 0x5A#8)] }).2 = some 0x5A#8 ∧
      (takeCycle ⟨true, true, false, .read, 0x00#6, 0#8⟩ State.reset).2 = some 0xC4#8 := by decide

/-- The table gives no row bits, so no word spells a command. -/
theorem test_no_words : decodeTableWord 8 1 = none ∧ State.reset.withFetchWord 8 1 = State.reset := by
  decide

/-! ## Witnesses: for each statement with hypotheses, states and operands that meet them, clause by clause
and at the edges of their ranges -/

/-- A part in reset for each cause of a reset (R176, R177). -/
def inResetBy (n : Bool) (p : PowerOnReset) : State := { State.reset with resetInputs := ⟨n, p⟩ }

/-- The reset state with a host access outstanding at the arbiter. -/
def portReading : State := atGrant (.port (.read 0x0E7F)) State.reset

theorem witness_EmptyQueueStepCountsOrQueuesEvents :
    portReading.pending = [] ∧ inReset portReading = false ∧
    portReading.arbiter.grant = some (.port (.read 0x0E7F)) ∧
    (queued [markEntry]).arbiter.grant = none ∧ (queued [markEntry]).engine.state = .idle ∧
    (queued [markEntry]).queue = [markEntry] ∧
    (let s := atPanel .blanked State.reset;
      s.arbiter.grant = none ∧ s.queue = [] ∧ scanRunning s = true ∧
      (let t := { s with scanner := { s.scanner with tick := 126 } };
        t.scanner.tick + 1 < 32 * t.scanner.active.divider) ∧
      (let t := { s with scanner := { s.scanner with tick := 127 } };
        32 * t.scanner.active.divider ≤ t.scanner.tick + 1)) ∧
    (∀ n ∈ [1, 1024], inReset (inResetBy false (.releasing n)) = true ∧
      (inResetBy false (.releasing n)).pending = [] ∧
      (inResetBy false (.releasing n)).resetInputs.powerOn = .releasing n) ∧
    (inReset (inResetBy true .released) = true ∧ inReset (inResetBy false .supplyLow) = true) := by
  decide

theorem witness_APartInResetStandsStill (n : Bool) (p : PowerOnReset) (h : n = true ∨ p ≠ .released) :
    ResetInv (inResetBy n p) ∧ inReset (inResetBy n p) = true ∧
      (Instr.push 1#8).wellFormed = true ∧ isResetEvent (.push 1#8) = false := by
  refine ⟨fun _ => ⟨rfl, rfl, rfl, rfl, rfl, rfl, rfl⟩, ?_, rfl, rfl⟩
  cases h with
  | inl h => subst h; rfl
  | inr h => simp [inReset, inResetBy, h]

theorem witness_DueTakesComeFirst :
    let s := { queued [markEntry] with engine := { Engine.reset with takeDue := true } }
    s.queue = markEntry :: [] ∧ BoundsInv s ∧ EngineInv s ∧ inReset s = false ∧
      s.engine.takeDue = true ∧ isTake .pop = false ∧ isResetEvent .pop = false := by
  refine ⟨rfl, ?_, ⟨rfl, fun h => (nomatch h), fun _ => ⟨rfl, fun h => (nomatch h)⟩⟩, rfl, rfl, rfl, rfl⟩
  unfold BoundsInv; decide

theorem witness_BusWritesAndCommandsAgree :
    ((Instr.registerWrite 0x3F#6 0#8).wellFormed = true ∧
      busWrite (.registerWrite 0x3F#6 0#8) = some (0x3F#6, 0#8)) ∧
    BusCycle.access ⟨true, true, true, .together, 0x03#6, 0#8⟩ = none ∧
    BusCycle.access ⟨true, true, true, .read, 0x03#6, 0#8⟩ = some (.read 0x03#6) ∧
    BusCycle.access ⟨true, false, true, .write, 0x08#6, 6#8⟩ = some (.write 0x08#6 6#8) := by decide

theorem witness_PushAppendsRejectsOrOverruns :
    Ready State.reset ∧ ((0#8).toNat = 0 ∨ 7 ≤ (0#8).toNat) ∧ ((7#8).toNat = 0 ∨ 7 ≤ (7#8).toNat) ∧
    (let s := queued (List.replicate 16 markEntry);
      Ready s ∧ 16 ≤ s.queue.length) ∧
    (let s := queued (List.replicate 15 markEntry);
      Ready s ∧ s.queue.length < 16) := by
  unfold Ready; decide

theorem witness_SpaceThresholdAcceptsOneToSixteen :
    Ready State.reset ∧ 1 ≤ (1#8).toNat ∧ (16#8).toNat ≤ 16 ∧
    ((0#8).toNat = 0 ∨ 17 ≤ (0#8).toNat) ∧ ((17#8).toNat = 0 ∨ 17 ≤ (17#8).toNat) ∧
    State.reset.queue.length < 16 := by
  unfold Ready; decide

theorem witness_FlushEmptiesTheQueueAndNothingElse :
    let s := queued [markEntry]
    Ready s ∧ s.spaceThreshold.toNat ≤ 16 := by
  unfold Ready; decide

theorem witness_AFailedCheckFaultsAtTheTake :
    (copyEntry 0x0E7F#16 2#16).check = some .destRange ∧
    (queued [copyEntry 0x0E7F#16 2#16]).queue = copyEntry 0x0E7F#16 2#16 :: [] ∧
    (queued [copyEntry 0x0E7F#16 2#16]).engine.state = .idle ∧
    (stampEntry 4#8).check = some .parameter ∧
    ({ presentEntry 0#7 with d := 4#8 } : Entry).check = some .parameter ∧
    ({ zoneEntry with d := 8#8 } : Entry).check = some .parameter ∧
    (waitEntry 0#8).check = some .parameter ∧
    (copyEntry 0#16 0#16).c.toNat = 0 ∧ 4096 < (copyEntry 0#16 4097#16).c.toNat ∧
    (let e := { copyEntry 0#16 2#16 with a := 0x0E7F#16 };
      e.kind = .copy ∧ 1 ≤ e.c.toNat ∧ e.c.toNat ≤ 4096 ∧ 1 < e.c.toNat ∧ 0x0E80 ≤ e.a.toNat + 1 ∧
        e.check = some .sourceRange) ∧
    (let e := { stampEntry 3#8 with a := 0x0E80#16 };
      e.kind = .stamp ∧ 0 < (hiByte e.c).toNat ∧ 8 * 0 < (loByte e.c).toNat ∧
        0x0E80 ≤ e.a.toNat + 0 * (loByte e.b).toNat + 0 ∧ e.check = some .sourceRange) ∧
    (presentEntry 0#7).kind = .present ∧ zoneEntry.kind = .zone ∧ (waitEntry 1#8).kind = .wait ∧
    markEntry.kind = .mark := by decide

theorem witness_AnAllowedDrawingBeginsAtItsTake :
    (let e := copyEntry 0x0E7F#16 1#16;
      (queued [e]).queue = e :: [] ∧ (queued [e]).engine.state = .idle ∧ e.check = none ∧
        e.kind = .copy ∧ ArbiterBusyInv (queued [e]) ∧ MayBegin e (queued [e])) ∧
    (let e := stampEntry 3#8;
      (queued [e]).queue = e :: [] ∧ e.check = none ∧ e.kind = .stamp ∧
        ArbiterBusyInv (queued [e]) ∧ MayBegin e (queued [e])) :=
  ⟨⟨rfl, rfl, by decide, rfl, fun _ => ⟨rfl, rfl, rfl⟩, .inr (.inl rfl)⟩,
    ⟨rfl, by decide, rfl, fun _ => ⟨rfl, rfl, rfl⟩, .inr (.inl rfl)⟩⟩

theorem witness_TheHoldRuleHoldsOrFaultsADrawing :
    let e := copyEntry 0x0C9F#16 1#16
    let f := stampEntry 1#8
    let held := atPages 0 (some 1) (atPanel .showing (queued [f]))
    let faulted := atPages 0 none (atPanel .showing (queued [e]))
    held.queue = f :: [] ∧ held.engine.state = .idle ∧ f.kind = .stamp ∧ f.check = none ∧
      f.flags.getLsbD 1 = false ∧ held.pages.pending = some 1 ∧ f.touches 1 = true ∧
    faulted.queue = e :: [] ∧ faulted.engine.state = .idle ∧ e.kind = .copy ∧ e.check = none ∧
      e.flags.getLsbD 1 = false ∧ faulted.pages.pending = none ∧ scanRunning faulted = true ∧
      e.touches faulted.pages.shown = true := by decide

theorem witness_PresentIsHeldPendingOrShown :
    let e := presentEntry 0#7
    let f := presentEntry 0x40#7
    let held := atPages 0 (some 1) (atPanel .showing (queued [e]))
    let pended := atPages 0 none (atPanel .showing (queued [e]))
    held.queue = e :: [] ∧ held.engine.state = .idle ∧ e.kind = .present ∧
      e.d.toNat = (2 : Fin 4).val ∧ held.pages.pending.isSome = true ∧
    pended.pages.pending = none ∧ scanRunning pended = true ∧ e.flags.getLsbD 6 = false ∧
    f.flags.getLsbD 6 = true ∧ f.d.toNat = (2 : Fin 4).val ∧
    (queued [e]).pages.pending = none ∧ scanRunning (queued [e]) = false := by decide

theorem witness_ZoneWritesOneEntry :
    let e := zoneEntry
    (queued [e]).queue = e :: [] ∧ (queued [e]).engine.state = .idle ∧ e.kind = .zone ∧
      e.d.toNat = (7 : Fin 8).val ∧ (loByte e.a).toNat ≤ (hiByte e.a).toNat ∧
      (hiByte e.a).toNat ≤ 63 ∧ (loByte e.b).toNat ≤ (hiByte e.b).toNat ∧
      (hiByte e.b).toNat ≤ 19 := by decide

theorem witness_WaitAndMarkAtTheirTake :
    let e := waitEntry 1#8
    (queued [e]).queue = e :: [] ∧ (queued [e]).engine.state = .idle ∧ e.kind = .wait ∧
      1 ≤ e.d.toNat ∧ scanRunning (queued [e]) = false ∧
      scanRunning (atPanel .blanked (queued [e])) = true ∧
      (queued [markEntry]).queue = markEntry :: [] ∧ markEntry.kind = .mark := by decide

theorem witness_PauseInEveryEngineState :
    Ready State.reset ∧ State.reset.engine.pauseRequested = false ∧ State.reset.engine.state = .idle ∧
    (∀ g ∈ [EngineState.held, .running, .waiting, .stalled, .faultPending, .halted, .paused],
      Ready (atEngine g none .none State.reset) ∧
        (atEngine g none .none State.reset).engine.state = g ∧
        (atEngine g none .none State.reset).engine.pauseRequested = false) ∧
    (let s := { State.reset with
        engine := { Engine.reset with state := .waiting, pauseRequested := true } };
      Ready s ∧ s.engine.pauseRequested = true) := by
  unfold Ready; decide

/-- The reset state with the engine in state `g` and `p` as its pause-requested mark. -/
def pausing (g : EngineState) (p : Bool) : State :=
  { State.reset with engine := { Engine.reset with state := g, pauseRequested := p } }

theorem witness_ResumeAndContinueLeaveTheirStates :
    (Ready (pausing .paused false) ∧ (pausing .paused false).engine.state = .paused ∧
      (pausing .paused false).engine.current = none) ∧
    (Ready (pausing .running true) ∧ (pausing .running true).engine.state ≠ .paused ∧
      (pausing .running true).engine.pauseRequested = true) ∧
    (Ready (pausing .idle false) ∧ (pausing .idle false).engine.state ≠ .paused ∧
      (pausing .idle false).engine.state ≠ .halted ∧
      (pausing .idle false).engine.pauseRequested = false) ∧
    (∀ p ∈ [true, false], Ready (pausing .halted p) ∧ (pausing .halted p).engine.state = .halted ∧
      (pausing .halted p).engine.pauseRequested = p) := by
  unfold Ready; decide

/-- A COPY of the byte of 0C9Fh, in work at its source byte. -/
def copying (noted : Bool) : State :=
  atGrant (.engine ⟨.copyRead 0 0x0C9F, false⟩) (atEngine .running
    (some { Current.ofEntry (copyEntry 0x0C9F#16 1#16) with abortNoted := noted }) .none State.reset)

/-- The same COPY with its request still waiting behind a row latch. -/
def copyWaiting : State :=
  let s := atGrant (.row ⟨0, false⟩ 0) (atEngine .running
    (some (Current.ofEntry (copyEntry 0x0C9F#16 1#16))) .none State.reset)
  { s with arbiter := { s.arbiter with engineRequest := some ⟨.copyRead 0 0x0C9F, false⟩ } }

/-- A RUNNING command whose next access waits behind a row latch. -/
def drawingWaiting (c : Current) : State :=
  let s := atGrant (.row ⟨0, false⟩ 0) (atEngine .running (some c) .none State.reset)
  { s with arbiter := { s.arbiter with engineRequest := c.nextAccess.map (fun a => ⟨a, false⟩) } }

theorem witness_AbortOfARunningCommand :
    (∀ noted ∈ [true, false], Ready (copying noted) ∧ (copying noted).engine.state = .running ∧
      ∃ c, (copying noted).engine.current = some c ∧ c.abortNoted = noted ∧
        (copying noted).arbiter.grant = some (.engine ⟨.copyRead 0 0x0C9F, false⟩)) ∧
    (let c := { Current.ofEntry (copyEntry 0x0C9F#16 1#16) with copyByte := some 5#8 };
      Ready (drawingWaiting c) ∧ c.abortNoted = false ∧ c.entry.kind = .copy ∧ c.copyByte = some 5#8) ∧
    (let c := { Current.ofEntry (stampEntry 1#8) with phase := .writing, rowBuffer := [1#8] };
      Ready (drawingWaiting c) ∧ c.abortNoted = false ∧ c.entry.kind = .stamp ∧ c.phase = .writing) ∧
    (let c := { Current.ofEntry { stampEntry 1#8 with c := 0x0109#16 } with
        byteIndex := 1, rowBuffer := [1#8] };
      Ready (drawingWaiting c) ∧ c.abortNoted = false ∧ c.entry.kind = .stamp ∧ 0 < c.byteIndex) ∧
    (Ready copyWaiting ∧ copyWaiting.engine.state = .running ∧
      (∀ access, copyWaiting.arbiter.grant ≠ some (.engine ⟨access, false⟩)) ∧
      ∃ c, copyWaiting.engine.current = some c ∧ c.abortNoted = false ∧ c.entry.kind = .copy ∧
        c.copyByte = none) ∧
    (let c := Current.ofEntry (stampEntry 1#8);
      Ready (drawingWaiting c) ∧
        (∀ access, (drawingWaiting c).arbiter.grant ≠ some (.engine ⟨access, false⟩)) ∧
        c.abortNoted = false ∧ c.entry.kind = .stamp ∧ c.phase = .reading ∧ c.byteIndex = 0) := by
  refine ⟨?_, ⟨⟨rfl, rfl, rfl⟩, rfl, rfl, rfl⟩, ⟨⟨rfl, rfl, rfl⟩, rfl, rfl, rfl⟩,
    ⟨⟨rfl, rfl, rfl⟩, rfl, rfl, Nat.zero_lt_one⟩,
    ⟨⟨rfl, rfl, rfl⟩, rfl, fun _ h => (nomatch h), _, rfl, rfl, rfl, rfl⟩,
    ⟨⟨rfl, rfl, rfl⟩, fun _ h => (nomatch h), rfl, rfl, rfl, rfl⟩⟩
  intro noted _
  exact ⟨⟨rfl, rfl, rfl⟩, rfl, _, rfl, rfl, rfl⟩

theorem witness_AbortOutsideRunning :
    (∀ g ∈ [EngineState.held, .paused],
      Ready (atEngine g (some (heldOf (stampEntry 1#8))) .page State.reset)) ∧
    (waitEntry 1#8).kind = .wait ∧ (presentEntry 0x40#7).kind = .present ∧
    (∀ e ∈ [waitEntry 1#8, presentEntry 0x40#7],
      Ready (atEngine .waiting (some (Current.ofEntry e)) .none State.reset)) ∧
    (∀ g ∈ [EngineState.idle, .stalled, .faultPending, .halted, .paused],
      Ready (atEngine g none .none State.reset) ∧
        (atEngine g none .none State.reset).engine.state = g ∧
        (atEngine g none .none State.reset).engine.current = none) := by
  unfold Ready; decide

theorem witness_EngineResetDropsTheEnginesWork : Ready copyWaiting ∧ Ready (copying false) := by
  unfold Ready; decide

/-- A full ring with a record that waits. -/
def recordWaiting (g : EngineState) : State :=
  { State.reset with
    ring := fullRing
    engine := { Engine.reset with
      state := g
      current := some (Current.ofEntry markEntry)
      waitingRecord := some (aRecord 31#8) } }

theorem witness_PopRemovesTheHeadRecord :
    (Ready State.reset ∧ WaitingRecordInv State.reset ∧ State.reset.ring = []) ∧
    (let s := { State.reset with ring := fullRing };
      Ready s ∧ WaitingRecordInv s ∧ s.ring = aRecord 1#8 :: aRecord 2#8 :: fullRing.drop 2 ∧
        s.engine.state ≠ .stalled ∧ s.engine.state ≠ .faultPending ∧
        (aRecord 2#8).progress < 65536) ∧
    (let s := { State.reset with ring := [aRecord 1#8] };
      Ready s ∧ WaitingRecordInv s ∧ s.ring = aRecord 1#8 :: []) ∧
    (∀ g ∈ [EngineState.stalled, .faultPending],
      Ready (recordWaiting g) ∧ WaitingRecordInv (recordWaiting g) ∧ (recordWaiting g).ring ≠ [] ∧
        (recordWaiting g).engine.waitingRecord = some (aRecord 31#8) ∧
        (recordWaiting g).engine.state = g) := by
  unfold Ready WaitingRecordInv; decide

theorem witness_UnassignedRequestsAreRefused :
    Ready State.reset ∧ (0#8).toNat = 0 ∧ 8 ≤ (8#8).toNat ∧ 5 ≤ (5#8).toNat := by
  unfold Ready; decide

theorem witness_PanelRequestsInEveryPanelState :
    (∀ p ∈ [PanelState.off, .charging, .blanked, .showing, .stopping, .discharging],
      Ready (atPanel p State.reset) ∧ (atPanel p State.reset).panel.state = p ∧
        (atPanel p State.reset).supply.state = .ok) ∧
    (let s := { State.reset with supply := { State.reset.supply with state := .low } };
      Ready s ∧ s.panel.state = .off ∧ s.supply.state = .low) := by
  unfold Ready; decide

theorem witness_SettingWritesReachTheirCopies :
    Ready State.reset ∧ scanRunning State.reset = false ∧ Ready (atPanel .blanked State.reset) ∧
      scanRunning (atPanel .blanked State.reset) = true ∧
      (1#8).getLsbD 0 = State.reset.supply.enabled ∧
      (0#8).getLsbD 0 ≠ State.reset.supply.enabled := by
  unfold Ready; decide

/-- The reset state with the data port at `pointer`. -/
def pointingAt (pointer : Word) : State :=
  { State.reset with port := { State.reset.port with pointer := pointer } }

theorem witness_PortDataAccessesMemoryAndAdvances :
    (Ready (pointingAt 0x0E7F#16) ∧ ArbiterBusyInv (pointingAt 0x0E7F#16) ∧
      ServiceInv (pointingAt 0x0E7F#16) ∧ (pointingAt 0x0E7F#16).arbiter.engineOwed = false ∧
      (pointingAt 0x0E7F#16).port.pointer.toNat ≤ 0x0E7F) ∧
    (let s := { copyWaiting with arbiter := { copyWaiting.arbiter with engineOwed := true } };
      Ready s ∧ ArbiterBusyInv s ∧ ServiceInv s ∧ s.arbiter.engineOwed = true ∧
        s.arbiter.rowRequest = none ∧ s.port.pointer.toNat ≤ 0x0E7F) ∧
    (Ready (pointingAt 0x0E80#16) ∧ ArbiterBusyInv (pointingAt 0x0E80#16) ∧
      ServiceInv (pointingAt 0x0E80#16) ∧ 0x0E80 ≤ (pointingAt 0x0E80#16).port.pointer.toNat) :=
  ⟨⟨⟨rfl, rfl, rfl⟩, fun _ => ⟨rfl, rfl, rfl⟩, fun h => (nomatch h), rfl, by decide⟩,
    ⟨⟨rfl, rfl, rfl⟩, fun h => (nomatch h), fun _ => ⟨rfl, rfl, _, rfl, rfl⟩, rfl, rfl, by decide⟩,
    ⟨⟨rfl, rfl, rfl⟩, fun _ => ⟨rfl, rfl, rfl⟩, fun h => (nomatch h), by decide⟩⟩

theorem witness_InterruptFlagsAndTheInterruptLine : Ready { State.reset with ring := fullRing } := by
  unfold Ready; decide

theorem witness_FrameCountReadsAreOneCount :
    Ready { State.reset with scanner := { State.reset.scanner with frameCount := 0xFFFF#16 } } := by
  unfold Ready; decide

theorem witness_RegisterWritesReplaceOneRegister :
    Ready State.reset ∧ ∀ o ∈ [0x00#6, 0x05#6, 0x13#6, 0x1A#6, 0x1C#6, 0x1F#6, 0x22#6, 0x24#6, 0x27#6,
        0x32#6, 0x3F#6],
      (o.toNat ≤ 0x05 ∨ (0x13 ≤ o.toNat ∧ o.toNat ≤ 0x1A) ∨ (0x1C ≤ o.toNat ∧ o.toNat ≤ 0x1F) ∨
        o.toNat = 0x22 ∨ o.toNat = 0x24 ∨ o.toNat = 0x27 ∨ 0x32 ≤ o.toNat) := by
  unfold Ready; decide

theorem witness_AWriteChangesOneMappedByte :
    (0x0E7F < 0x0E80 ∧ 0x0E7F ≠ 0x0E7E) ∧ 0x0E80 ≤ 0x0E80 := by decide

/-- The reset state with one request of each client waiting, as given. -/
def waitingFor (r : Option RowRequest) (p : Option PortAccess) (e : Option EngineRequest) : State :=
  { State.reset with arbiter := ⟨none, r, p, e, false⟩ }

theorem witness_TheArbiterServesTheHighestPriority :
    portReading.arbiter.grant.isSome = true ∧
    (let s := waitingFor (some ⟨0, false⟩) (some (.read 0)) (some ⟨.stampRead 0, false⟩);
      s.arbiter.grant = none ∧ s.arbiter.rowRequest = some ⟨0, false⟩) ∧
    (let s := waitingFor none (some (.read 0)) (some ⟨.stampRead 0, false⟩);
      s.arbiter.grant = none ∧ s.arbiter.rowRequest = none ∧
        s.arbiter.portRequest = some (.read 0)) ∧
    (let s := waitingFor none none (some ⟨.stampRead 0, false⟩);
      s.arbiter.grant = none ∧ s.arbiter.rowRequest = none ∧ s.arbiter.portRequest = none ∧
        s.arbiter.engineRequest = some ⟨.stampRead 0, false⟩) ∧
    (let s := State.reset;
      s.arbiter.grant = none ∧ s.arbiter.rowRequest = none ∧ s.arbiter.portRequest = none ∧
        s.arbiter.engineRequest = none) := by decide

theorem witness_ARowLatchFixesTheDotsOfItsRow :
    ∀ d ∈ [true, false], Settled (atGrant (.row ⟨19, d⟩ 0) State.reset) ∧
      (atGrant (.row ⟨19, d⟩ 0) State.reset).arbiter.grant = some (.row ⟨19, d⟩ 0) := by
  unfold Settled; decide

theorem witness_ADataPortGrantReadsOrStoresOneByte :
    (Settled portReading ∧ portReading.arbiter.grant = some (.port (.read 0x0E7F))) ∧
    (let s := atGrant (.port (.write 0 1#8)) State.reset;
      Settled s ∧ s.arbiter.grant = some (.port (.write 0 1#8))) := by
  unfold Settled; decide

/-- The reset state with `access` granted to a RUNNING command `c`, or to a dropped command while the
engine is IDLE. -/
def granted (access : EngineAccess) (c : Option Current) : State :=
  match c with
  | some c => atGrant (.engine ⟨access, false⟩) (atEngine .running (some c) .none State.reset)
  | none => atGrant (.engine ⟨access, true⟩) State.reset

/-- The granted access of a RUNNING command is the command's next. -/
theorem granted_running_inv {access : EngineAccess} {c : Current} (h : c.nextAccess = some access) :
    Settled (granted access (some c)) ∧ EngineAccessInv (granted access (some c)) := by
  refine ⟨rfl, fun h => (nomatch h), fun _ h => (nomatch h), ?_, fun _ => rfl⟩
  intro e he _
  simp only [granted, atGrant, Option.some.injEq, Grant.engine.injEq] at he
  subst he
  exact ⟨rfl, h⟩

/-- A dropped access may be granted to an IDLE engine. -/
theorem granted_dropped_inv (access : EngineAccess) :
    Settled (granted access none) ∧ EngineAccessInv (granted access none) := by
  refine ⟨rfl, fun h => (nomatch h), fun _ h => (nomatch h), ?_, fun h => (nomatch h)⟩
  intro e he hd
  simp only [granted, atGrant, Option.some.injEq, Grant.engine.injEq] at he
  subst he
  cases hd

theorem witness_ACopyReadRequestsTheWriteOfItsByte :
    (let c := Current.ofEntry (copyEntry 0x0C9F#16 1#16);
      Settled (granted (.copyRead 0 0x0C9F) (some c)) ∧
        EngineAccessInv (granted (.copyRead 0 0x0C9F) (some c)) ∧ c.entry.kind = .copy) ∧
    (Settled (granted (.copyRead 0 0x0C9F) none) ∧ EngineAccessInv (granted (.copyRead 0 0x0C9F) none)) :=
  ⟨⟨(granted_running_inv rfl).1, (granted_running_inv rfl).2, rfl⟩, granted_dropped_inv _⟩

/-- A COPY of `n` bytes to 0C00h that holds its first byte. -/
def copyHolding (n : Word) (noted : Bool) : Current :=
  { Current.ofEntry (copyEntry 0x0C00#16 n) with copyByte := some 5#8, abortNoted := noted }

theorem witness_ACopyWriteStoresOneByteAndGoesOn :
    (∀ (n : Word) (noted : Bool),
      Settled (granted (.copyWrite 0x0C00 5#8) (some (copyHolding n noted))) ∧
        EngineAccessInv (granted (.copyWrite 0x0C00 5#8) (some (copyHolding n noted)))) ∧
    (copyHolding 1#16 true).abortNoted = true ∧
    ((copyHolding 1#16 false).abortNoted = false ∧
      (copyHolding 1#16 false).entry.c.toNat ≤ (copyHolding 1#16 false).progress + 1) ∧
    ((copyHolding 2#16 false).abortNoted = false ∧
      (copyHolding 2#16 false).progress + 1 < (copyHolding 2#16 false).entry.c.toNat) ∧
    (Settled (granted (.copyWrite 0x0C00 5#8) none) ∧
      EngineAccessInv (granted (.copyWrite 0x0C00 5#8) none)) :=
  ⟨fun n noted => granted_running_inv (c := copyHolding n noted)
      (by simp [copyHolding, copyEntry, Current.ofEntry, Current.nextAccess, Entry.copyDestination,
        Entry.dstFixed]), rfl, ⟨rfl, by decide⟩, ⟨rfl, by decide⟩, granted_dropped_inv _⟩

theorem witness_AStampReadFillsTheRowBuffer :
    (let c := Current.ofEntry (stampEntry 1#8);
      Settled (granted (.stampRead 0) (some c)) ∧ EngineAccessInv (granted (.stampRead 0) (some c)) ∧
        c.entry.kind = .stamp ∧
        (min (loByte c.entry.c).toNat (64 - c.entry.d.toNat) - 1) / 8 ≤ c.byteIndex ∧
        (hiByte c.entry.b).toNat ≤ 3) ∧
    (let c := Current.ofEntry { stampEntry 1#8 with c := 0x0109#16 };
      Settled (granted (.stampRead 0) (some c)) ∧ EngineAccessInv (granted (.stampRead 0) (some c)) ∧
        c.entry.kind = .stamp ∧
        c.byteIndex < (min (loByte c.entry.c).toNat (64 - c.entry.d.toNat) - 1) / 8) ∧
    (Settled (granted (.stampRead 0) none) ∧ EngineAccessInv (granted (.stampRead 0) none)) :=
  ⟨⟨(granted_running_inv rfl).1, (granted_running_inv rfl).2, rfl, by decide, by decide⟩,
    ⟨(granted_running_inv rfl).1, (granted_running_inv rfl).2, rfl, by decide⟩, granted_dropped_inv _⟩

/-- A STAMP of `height` rows of `width` dots at the first dot of page 1, with its first row read. -/
def stampWriting (height width : Byte) (noted : Bool) : Current :=
  { Current.ofEntry { stampEntry 1#8 with c := height ++ width } with
    phase := .writing, rowBuffer := [0xFF#8, 0xFF#8], abortNoted := noted }

theorem witness_AStampWriteCombinesOneByteAndGoesOn :
    (∀ (height width : Byte) (noted : Bool), ∃ access,
      (stampWriting height width noted).nextAccess = some access ∧
        Settled (granted access (some (stampWriting height width noted))) ∧
        EngineAccessInv (granted access (some (stampWriting height width noted)))) ∧
    (let touched (c : Current) := (c.entry.d.toNat +
        min (loByte c.entry.c).toNat (64 - c.entry.d.toNat) - 1) / 8 - c.entry.d.toNat / 8 + 1;
      let height (c : Current) := min (hiByte c.entry.c).toNat (20 - c.entry.e.toNat);
      (let c := stampWriting 1#8 9#8 false;
        c.byteIndex + 1 < touched c ∧ (hiByte c.entry.b).toNat ≤ 3) ∧
      (let c := stampWriting 1#8 8#8 true; touched c ≤ c.byteIndex + 1 ∧ c.abortNoted = true) ∧
      (let c := stampWriting 1#8 8#8 false;
        touched c ≤ c.byteIndex + 1 ∧ c.abortNoted = false ∧ height c ≤ c.progress + 1) ∧
      (let c := stampWriting 2#8 8#8 false;
        touched c ≤ c.byteIndex + 1 ∧ c.abortNoted = false ∧ c.progress + 1 < height c)) ∧
    (Settled (granted (.stampModify 0x0C00 1#8 1#8 .set) none) ∧
      EngineAccessInv (granted (.stampModify 0x0C00 1#8 1#8 .set) none)) :=
  ⟨fun _ _ _ => ⟨_, rfl, granted_running_inv rfl⟩, by decide,
    granted_dropped_inv _⟩

theorem witness_AStampChangesOnlyItsColumns :
    let e := stampEntry 1#8
    let column (i : Nat) := 8 * (e.d.toNat / 8 + 0) + (7 - i)
    let last := e.d.toNat + min (loByte e.c).toNat (64 - e.d.toNat)
    (7 < 8 ∧ e.d.toNat ≤ column 7 ∧ column 7 < last) ∧
    (6 < 8 ∧ ¬ (e.d.toNat ≤ column 6 ∧ column 6 < last)) := by decide

theorem witness_ChecksPassOnlyMappedRanges :
    (copyEntry 0x0E7F#16 1#16).checkCopy = none ∧ (copyEntry 0x0E7F#16 2#16).checkCopy ≠ none ∧
      (stampEntry 3#8).checkStamp = none := by decide

theorem witness_TouchedPagesAreThoseWritten :
    (copyEntry 0x0C9F#16 2#16).kind = .copy ∧ (copyEntry 0x0C9F#16 2#16).checkCopy = none ∧
      (copyEntry 0x0C9F#16 2#16).touches 0 = true ∧ (copyEntry 0x0C9F#16 2#16).touches 1 = true ∧
      (copyEntry 0x0C9F#16 2#16).touches 2 = false ∧
      (stampEntry 1#8).kind = .stamp ∧ (stampEntry 1#8).checkStamp = none := by decide

theorem witness_EachDotFollowsItsLowestZone :
    (let s := atGrant (.row ⟨19, false⟩ 3) State.reset;
      s.arbiter.grant = some (.row ⟨19, false⟩ 3) ∧ Settled s ∧ 63 < 64 ∧
        ∀ i : Fin 8, (s.compositor.activeZones.get i).enable = false) ∧
    (let s := atGrant (.row ⟨19, false⟩ 3) (after .zone (queued [zoneEntry]));
      let z := s.compositor.activeZones.get 7;
      s.arbiter.grant = some (.row ⟨19, false⟩ 3) ∧ Settled s ∧
      (z.enable = true ∧ z.firstColumn.toNat ≤ 63 ∧ 63 ≤ z.lastColumn.toNat ∧ z.firstRow.toNat ≤ 19 ∧
        19 ≤ z.lastRow.toNat) ∧
      ∀ j : Fin 8, j < 7 → (s.compositor.activeZones.get j).enable = false) := by
  unfold Settled; decide

/-! ### States that meet every invariant -/

/-- The reset state with the panel in state `p`, a negative frame, an engine, a presentation, and a low
sample in the history. -/
def display (p : PanelState) (g : Engine) (pages : Presentation) : State :=
  { atPanel p State.reset with
    engine := g, pages := pages, supply := { State.reset.supply with history := some .low } }

/-- Such a state meets every invariant if its engine does. -/
theorem display_inv {p : PanelState} {g : Engine} {pages : Presentation}
    (hPanel : p ≠ .charging ∧ p ≠ .discharging)
    (hRecord : g.waitingRecord = none ∧ g.state ≠ .stalled ∧ g.state ≠ .faultPending)
    (hRunning : g.state ≠ .running) (hEngine : EngineInv (display p g pages))
    (hPresent : PresentInv (display p g pages)) (hDrawing : DrawingInv (display p g pages)) :
    Inv (display p g pages) := by
  refine ⟨rfl, ⟨Nat.le_of_ble_eq_true rfl, Nat.le_of_ble_eq_true rfl,
    Nat.le_of_ble_eq_true rfl, Nat.le_of_ble_eq_true rfl⟩, ?_, hEngine,
    hPresent, ?_, ?_, fun _ => ⟨rfl, fun _ h => (nomatch h), fun _ _ h => (nomatch h)⟩, ?_, ?_,
    fun h => (nomatch h), ?_, fun _ => ⟨rfl, rfl, rfl⟩, fun h => (nomatch h), fun h => (nomatch h),
    hDrawing, ?_⟩
  · simp [WaitingRecordInv, display, atPanel, hRecord, State.reset]
  · refine ⟨fun h => (nomatch h), fun h => (nomatch h), fun h => (nomatch h), ?_, ?_, fun _ => rfl⟩ <;>
      simp [display, atPanel, State.reset, Panel.reset, hPanel]
  · intro _; exact ⟨Nat.le_of_ble_eq_true rfl, Nat.le_of_ble_eq_true rfl⟩
  · exact ⟨fun h => (nomatch h), Nat.le_of_ble_eq_true rfl⟩
  · have zones : ∀ z ∈ (Vector.replicate 8 ZoneEntry.reset).toList, z.inRange := by
      unfold ZoneEntry.inRange; decide
    refine ⟨zones, zones, ?_, ?_⟩ <;> exact ⟨Nat.le_of_ble_eq_true rfl, fun _ => rfl⟩
  · exact ⟨fun h => (nomatch h), fun _ h => (nomatch h), fun _ h => (nomatch h),
      fun h => absurd h hRunning⟩
  · exact ⟨fun _ h => (nomatch h), fun _ h => (nomatch h), fun _ _ h => (nomatch h), fun _ _ h => (nomatch h), fun _ h => (nomatch h),
      fun _ _ h => (nomatch h)⟩

/-- An engine in state `g` with a held command. -/
def holding (g : EngineState) (r : HoldReason) (e : Entry) : Engine :=
  ⟨g, some (heldOf e), r, false, none, false⟩

/-- A HELD or PAUSED engine with a held command meets every invariant. -/
theorem holding_inv {p : PanelState} {g : EngineState} {r : HoldReason} {e : Entry}
    {pages : Presentation} (hPanel : p ≠ .charging ∧ p ≠ .discharging) (hState : g = .held ∨ g = .paused)
    (hReason : (r = .page ∧ (e.kind = .copy ∨ e.kind = .stamp)) ∨ (r = .present ∧ e.kind = .present))
    (hCheck : e.check = none) (hCopy : e.kind = .copy → 0 < e.count)
    (hStamp : e.kind = .stamp → 0 < e.unclippedHeight ∧ 0 < e.sourceBytes)
    (hPending : pages.pending.isSome = true → p.scans = true)
    (hHeld : g = .held → pages.pending.isSome = true) :
    Inv (display p (holding g r e) pages) := by
  refine display_inv hPanel ?_ ?_ ?_ ?_ ?_
  · rcases hState with rfl | rfl <;> simp [holding]
  · rcases hState with rfl | rfl <;> simp [holding]
  · rcases hState with rfl | rfl <;>
      exact ⟨⟨rfl, hReason⟩, fun h => (nomatch h), fun h => (nomatch h)⟩
  · refine ⟨hPending, hHeld, ?_⟩
    intro c h _
    rcases hState with rfl | rfl <;> cases h
  · intro c h _ _ _
    cases h
    exact ⟨hCheck, fun _ => ⟨rfl, rfl, rfl, rfl⟩, hCopy,
      fun h => ⟨(hStamp h).1, fun _ => (hStamp h).2, fun h' => (nomatch h')⟩⟩

/-- An engine that waits. -/
def waiting (e : Entry) : Engine := ⟨.waiting, some (Current.ofEntry e), .none, false, none, false⟩

/-- A WAITING engine meets every invariant while the scan runs, a PRESENT with its page pending. -/
theorem waiting_inv {p : PanelState} {e : Entry} {pages : Presentation}
    (hPanel : p ≠ .charging ∧ p ≠ .discharging) (hScan : p.scans = true)
    (hKind : e.kind = .wait ∨ e.kind = .present)
    (hPage : e.kind = .present → pages.pending = some e.presentPage) :
    Inv (display p (waiting e) pages) := by
  refine display_inv hPanel (by simp [waiting]) (by simp [waiting])
    ⟨⟨hKind, rfl⟩, fun h => (nomatch h), fun h => (nomatch h)⟩
    ⟨fun _ => hScan, fun h => (nomatch h), ?_⟩ ?_
  · intro c _ h
    cases h
    exact ⟨hPage, fun _ => hScan⟩
  · intro c h hk
    cases h
    rcases hKind with h | h <;> simp [Current.ofEntry, h] at hk

/-- A part in reset meets every invariant. -/
theorem inReset_inv : Inv (inResetBy true .released) := by
  have zones : ∀ z ∈ (Vector.replicate 8 ZoneEntry.reset).toList, z.inRange := by
    unfold ZoneEntry.inRange; decide
  exact ⟨rfl, by unfold BoundsInv; decide, by unfold WaitingRecordInv; decide,
    ⟨rfl, fun h => (nomatch h), fun h => (nomatch h)⟩,
    ⟨fun h => (nomatch h), fun h => (nomatch h), fun _ h => (nomatch h)⟩, by unfold PanelInv; decide,
    fun h => (nomatch h), fun _ => ⟨rfl, fun _ h => (nomatch h), fun _ _ h => (nomatch h)⟩,
    by unfold SupplyInv; decide,
    ⟨zones, zones, ⟨by decide, fun _ => rfl⟩, ⟨by decide, fun _ => rfl⟩⟩,
    fun _ => ⟨rfl, rfl, rfl, rfl, rfl, rfl, rfl⟩,
    ⟨fun h => (nomatch h), fun _ h => (nomatch h), fun _ h => (nomatch h), fun h => (nomatch h)⟩,
    fun _ => ⟨rfl, rfl, rfl⟩, fun h => (nomatch h), fun h => (nomatch h),
    fun _ h => (nomatch h),
    ⟨fun _ h => (nomatch h), fun _ h => (nomatch h), fun _ _ h => (nomatch h), fun _ _ h => (nomatch h),
      fun _ h => (nomatch h), fun _ _ h => (nomatch h)⟩⟩

theorem witness_EveryAccessMeetsAReadyPart :
    (Inv (inResetBy true .released) ∧ inReset (inResetBy true .released) = true) ∧
    Inv (display .showing Engine.reset ⟨0, some 1⟩) ∧
    inReset (display .showing Engine.reset ⟨0, some 1⟩) = false ∧
    isHostAccess .pop = true ∧ Settled portReading ∧ inReset portReading = false ∧
    portReading.arbiter.grant = some (.port (.read 0x0E7F)) ∧ portReading.arbiter.portRequest = none :=
  ⟨⟨inReset_inv, rfl⟩, display_inv (by decide) (by decide) (by decide)
    ⟨rfl, fun h => (nomatch h), fun h => (nomatch h)⟩
    ⟨fun _ => rfl, fun h => (nomatch h), fun _ h => (nomatch h)⟩ (fun _ h => (nomatch h)),
    rfl, rfl, rfl, rfl, rfl, rfl⟩

/-- An idle part whose data-port pointer stands at `a`. -/
def pointedAt (a : Word) : State :=
  let s := display .showing Engine.reset ⟨0, some 1⟩
  { s with port := { s.port with pointer := a } }

theorem witness_EveryAccessMeetsAReadyPart_pointer :
    (∀ a, Inv (pointedAt a) ∧ inReset (pointedAt a) = false) ∧
    (beforeAccess (pointedAt 0x0E7F#16)).port.pointer.toNat < 0x0E80 ∧
    (beforeAccess (pointedAt 0x0E7F#16)).arbiter.grant = none ∧
    0x0E80 ≤ (beforeAccess (pointedAt 0x0E80#16)).port.pointer.toNat :=
  ⟨fun _ => ⟨display_inv (g := Engine.reset) (pages := ⟨0, some 1⟩) (by decide) (by decide) (by decide)
      ⟨rfl, fun h => (nomatch h), fun h => (nomatch h)⟩
      ⟨fun _ => rfl, fun h => (nomatch h), fun _ h => (nomatch h)⟩ (fun _ h => (nomatch h)), rfl⟩,
    by decide, rfl, by decide⟩

/-- The port grant in progress of the witness above meets every invariant too. -/
theorem portReading_inv : Inv portReading := by
  refine ⟨rfl, by unfold BoundsInv; decide, by unfold WaitingRecordInv; decide,
    ⟨rfl, fun h => (nomatch h), fun h => (nomatch h)⟩,
    ⟨fun h => (nomatch h), fun h => (nomatch h), fun _ h => (nomatch h)⟩, by unfold PanelInv; decide,
    fun h => (nomatch h), fun _ => ⟨rfl, fun _ h => (nomatch h), fun _ _ h => (nomatch h)⟩,
    by unfold SupplyInv; decide, ?_, fun h => (nomatch h),
    ⟨fun h => (nomatch h), fun _ h => (nomatch h), fun _ h => (nomatch h), fun h => (nomatch h)⟩,
    fun h => (nomatch h), fun h => (nomatch h), fun h => (nomatch h), fun _ h => (nomatch h),
    ⟨fun _ h => (nomatch h), fun _ h => by cases h; rfl, fun _ _ h => (nomatch h), fun _ _ h => (nomatch h),
      fun _ h => (nomatch h), fun _ _ h => (nomatch h)⟩⟩
  have zones : ∀ z ∈ (Vector.replicate 8 ZoneEntry.reset).toList, z.inRange := by
    unfold ZoneEntry.inRange; decide
  refine ⟨zones, zones, ?_, ?_⟩ <;> exact ⟨by decide, fun _ => rfl⟩

/-- A running scan with the read of a COPY byte in progress for a command that an ENGINE_RESET has dropped,
and a pair boundary waiting to be taken. -/
def copyDropped : State :=
  { atGrant (.engine ⟨.copyRead 0 0x0CA0, true⟩) (display .showing Engine.reset ⟨0, none⟩) with
    pending := [.pairBoundary] }

/-- It meets every invariant. -/
theorem copyDropped_inv : Inv copyDropped := by
  have zones : ∀ z ∈ (Vector.replicate 8 ZoneEntry.reset).toList, z.inRange := by
    unfold ZoneEntry.inRange; decide
  refine ⟨rfl, by unfold BoundsInv; decide, by unfold WaitingRecordInv; decide,
    ⟨rfl, fun h => (nomatch h), fun h => (nomatch h)⟩,
    ⟨fun h => (nomatch h), fun h => (nomatch h), fun _ h => (nomatch h)⟩, by unfold PanelInv; decide,
    fun _ => ⟨by decide, by decide⟩, fun h => (nomatch h), by unfold SupplyInv; decide,
    ⟨zones, zones, ⟨by decide, fun _ => rfl⟩, ⟨by decide, fun _ => rfl⟩⟩, fun h => (nomatch h),
    ⟨fun h => (nomatch h), fun _ h => (nomatch h), fun _ h hd => (by cases h; cases hd),
      fun h => (nomatch h)⟩, fun h => (nomatch h), fun h => (nomatch h),
    fun _ => ⟨rfl, rfl, rfl, rfl⟩, fun _ h => (nomatch h),
    ⟨fun _ h => (nomatch h), fun _ h => (nomatch h), fun _ _ h => (nomatch h), ?_,
      fun _ h => (nomatch h), fun _ _ h => (nomatch h)⟩⟩
  intro e a h ha
  cases h
  simp only [EngineAccess.addresses, List.mem_cons, List.not_mem_nil, or_false] at ha
  rcases ha with rfl | rfl <;> rfl

theorem witness_EveryAccessMeetsAReadyPart_dropped :
    Inv copyDropped ∧ inReset copyDropped = false ∧
      copyDropped.arbiter.grant = some (.engine ⟨.copyRead 0 0x0CA0, true⟩) :=
  ⟨copyDropped_inv, rfl, rfl⟩

/-- A held command in PAUSED, with the panel, the pages and the command as given. -/
def pausedWith (p : PanelState) (r : HoldReason) (e : Entry) (pages : Presentation) : State :=
  display p (holding .paused r e) pages

theorem witness_ResumeJudgesAHeldCommand_page :
    (let s := pausedWith .showing .page (stampEntry 2#8) ⟨0, some 1⟩;
      Inv s ∧ Ready s ∧ HoldRuleAllows (stampEntry 2#8) s) ∧
    (let s := pausedWith .off .page (stampEntry 2#8) ⟨2, none⟩;
      Inv s ∧ Ready s ∧ HoldRuleAllows (stampEntry 2#8) s) ∧
    (let s := pausedWith .showing .page (stampEntry 1#8) ⟨0, some 1⟩;
      Inv s ∧ Ready s ∧ ¬ HoldRuleAllows (stampEntry 1#8) s ∧ s.pages.pending.isSome = true) ∧
    (let s := pausedWith .showing .page (stampEntry 0#8) ⟨0, none⟩;
      Inv s ∧ Ready s ∧ ¬ HoldRuleAllows (stampEntry 0#8) s ∧ s.pages.pending = none) := by
  have inv : ∀ p page pages, p ≠ .charging ∧ p ≠ .discharging → (stampEntry page).check = none →
      (stampEntry page).unclippedHeight = 1 → (stampEntry page).sourceBytes = 1 →
      (pages.pending.isSome = true → p.scans = true) →
      Inv (pausedWith p .page (stampEntry page) pages) := fun p page pages hp hc h1 h2 h3 =>
    holding_inv hp (.inr rfl) (.inl ⟨rfl, .inr rfl⟩) hc (fun h => (nomatch h))
      (fun _ => ⟨by omega, by omega⟩) h3 (fun h => (nomatch h))
  refine ⟨⟨inv _ _ _ (by decide) (by decide) (by decide) (by decide) (by decide), ⟨rfl, rfl, rfl⟩,
      by decide, by decide⟩,
    ⟨inv _ _ _ (by decide) (by decide) (by decide) (by decide) (by decide), ⟨rfl, rfl, rfl⟩,
      .inl rfl⟩,
    ⟨inv _ _ _ (by decide) (by decide) (by decide) (by decide) (by decide), ⟨rfl, rfl, rfl⟩,
      fun h => (nomatch h.1), rfl⟩,
    ⟨inv _ _ _ (by decide) (by decide) (by decide) (by decide) (by decide), ⟨rfl, rfl, rfl⟩,
      fun h => h.elim (fun h => (nomatch h)) (fun h => (nomatch h)), rfl⟩⟩

theorem witness_ResumeJudgesAHeldCommand_present :
    (let s := pausedWith .showing .present (presentEntry 0#7) ⟨0, some 1⟩;
      Inv s ∧ Ready s ∧ s.pages.pending.isSome = true) ∧
    (∀ f ∈ [0#7, 0x40#7], let s := pausedWith .showing .present (presentEntry f) ⟨0, none⟩;
      Inv s ∧ Ready s ∧ s.pages.pending = none ∧ scanRunning s = true) ∧
    ((presentEntry 0#7).waitShown = false ∧ (presentEntry 0x40#7).waitShown = true) ∧
    (let s := pausedWith .off .present (presentEntry 0#7) ⟨0, none⟩;
      Inv s ∧ Ready s ∧ s.pages.pending = none ∧ scanRunning s = false) := by
  have inv : ∀ p f pages, p ≠ .charging ∧ p ≠ .discharging →
      (pages.pending.isSome = true → p.scans = true) →
      Inv (pausedWith p .present (presentEntry f) pages) := fun p f pages hp h3 =>
    holding_inv hp (.inr rfl) (.inr ⟨rfl, rfl⟩) (by rfl) (fun h => (nomatch h))
      (fun h => (nomatch h)) h3 (fun h => (nomatch h))
  exact ⟨⟨inv _ _ _ (by decide) (by decide), ⟨rfl, rfl, rfl⟩, rfl⟩,
    fun f _ => ⟨inv _ _ _ (by decide) (by decide), ⟨rfl, rfl, rfl⟩, rfl, rfl⟩, by decide,
    ⟨inv _ _ _ (by decide) (by decide), ⟨rfl, rfl, rfl⟩, rfl, rfl⟩⟩

/-! ### The scan, the panel and the supply -/

/-- A running scan in a frame of polarity `polarity`, at row `row`. -/
def scanningAt (polarity : Polarity) (row : Nat) : State :=
  let s := atPanel .showing State.reset
  { s with scanner := { s.scanner with polarity := polarity, row := row } }

theorem witness_RowsAndPositiveFramesEnd :
    (Settled (scanningAt .negative 14) ∧ scanRunning (scanningAt .negative 14) = true ∧
      (scanningAt .negative 14).scanner.row + 1 < activeCommons (scanningAt .negative 14)) ∧
    (Settled (scanningAt .positive 15) ∧ scanRunning (scanningAt .positive 15) = true ∧
      (scanningAt .positive 15).scanner.polarity = .positive ∧
      (scanningAt .positive 15).scanner.row + 1 = activeCommons (scanningAt .positive 15)) ∧
    (scanningAt .positive 14).scanner.row + 1 ≠ activeCommons (scanningAt .positive 14) ∧
    (Settled State.reset ∧ scanRunning State.reset = false) := by
  unfold Settled; decide

theorem witness_APairBoundaryActivatesSettings :
    ∀ p ∈ [PanelState.blanked, .showing], ∀ q ∈ [none, some (1 : Fin 4)],
      let s := atPages 0 q (atPanel p State.reset);
      Settled s ∧ (s.panel.state = .blanked ∨ s.panel.state = .showing) ∧
        s.scanner.polarity = .negative ∧ s.scanner.row + 1 = activeCommons s ∧
        s.engine.state ≠ .waiting ∧ (s.engine.state = .held → s.pages.pending = none) := by
  unfold Settled; decide

theorem witness_APairBoundaryEndsStopping :
    let s := atPages 0 (some 1) (atPanel .stopping State.reset);
    Settled s ∧ s.panel.state = .stopping ∧ s.scanner.polarity = .negative ∧
      s.scanner.row + 1 = activeCommons s ∧ s.engine.state ≠ .waiting ∧ (s.engine.state = .held → s.pages.pending = none) := by
  unfold Settled; decide

theorem witness_BlinkGroupsAdvanceAtPairBoundaries :
    let s := atPanel .blanked State.reset;
    let b := s.compositor.blinkA;
    Settled s ∧ scanRunning s = true ∧ s.scanner.polarity = .negative ∧
    s.scanner.row + 1 = activeCommons s ∧
    (b.restart = false ∧ b.phase = .on ∧ b.position + 1 ≠ b.staged.onLessOne.toNat + 1) ∧
    (({ b with position := 3 } : Blink).position + 1 = b.staged.onLessOne.toNat + 1) ∧
    (({ b with phase := .off, position := 3 } : Blink).position + 1 = b.staged.offLessOne.toNat + 1) ∧
    ({ b with restart := true } : Blink).restart = true := by
  unfold Settled; decide

theorem witness_AWaitingEngineAtAPairBoundary :
    (∀ p ∈ [PanelState.blanked, .stopping], ∀ n ∈ [1#8, 2#8],
      let s := display p (waiting (waitEntry n)) ⟨0, none⟩;
      s.engine.current = some (Current.ofEntry (waitEntry n)) ∧ s.engine.state = .waiting ∧ Settled s ∧
        scanRunning s = true ∧ s.scanner.polarity = .negative ∧ s.scanner.row + 1 = activeCommons s ∧
        (waitEntry n).kind = .wait) ∧
    ((waitEntry 1#8).d.toNat ≤ 0 + 1 ∧ 0 + 1 < (waitEntry 2#8).d.toNat) ∧
    (let s := display .blanked (waiting (presentEntry 0x40#7)) ⟨0, some 2⟩;
      s.engine.state = .waiting ∧ Settled s ∧ (presentEntry 0x40#7).kind = .present ∧
        s.pages.pending = some (presentEntry 0x40#7).presentPage) := by
  unfold Settled; decide

/-- A HELD command with page 1 pending. -/
def heldWith (p : PanelState) (r : HoldReason) (e : Entry) : State :=
  display p (holding .held r e) ⟨0, some 1⟩

/-- A held STAMP meets every invariant in any panel state in which the scan runs. -/
theorem heldStamp_inv {p : PanelState} {page : Byte} (hPanel : p ≠ .charging ∧ p ≠ .discharging)
    (hScan : p.scans = true) (hCheck : (stampEntry page).check = none)
    (hRows : (stampEntry page).unclippedHeight = 1) (hBytes : (stampEntry page).sourceBytes = 1) :
    Inv (heldWith p .page (stampEntry page)) :=
  holding_inv hPanel (.inl rfl) (.inl ⟨rfl, .inr rfl⟩) hCheck (fun h => (nomatch h))
    (fun _ => ⟨by omega, by omega⟩) (fun _ => hScan) (fun _ => rfl)

/-- A held PRESENT meets every invariant in any panel state in which the scan runs. -/
theorem heldPresent_inv {p : PanelState} {f : BitVec 7} (hPanel : p ≠ .charging ∧ p ≠ .discharging)
    (hScan : p.scans = true) : Inv (heldWith p .present (presentEntry f)) :=
  holding_inv hPanel (.inl rfl) (.inr ⟨rfl, rfl⟩) (by rfl) (fun h => (nomatch h))
    (fun h => (nomatch h)) (fun _ => hScan) (fun _ => rfl)

theorem witness_AHeldEngineAtASwitch :
    (let s := heldWith .blanked .page (stampEntry 0#8);
      Inv s ∧ Settled s ∧ s.engine.current = some (heldOf (stampEntry 0#8)) ∧ s.engine.state = .held ∧
        s.panel.state = .blanked ∧ s.scanner.polarity = .negative ∧
        s.scanner.row + 1 = activeCommons s ∧ s.pages.pending = some 1 ∧ (stampEntry 0#8).touches 1 = false) ∧
    (let s := heldWith .showing .page (stampEntry 1#8);
      Inv s ∧ Settled s ∧ s.panel.state = .showing ∧ (stampEntry 1#8).touches 1 = true) ∧
    (∀ f, let s := heldWith .showing .present (presentEntry f);
      Inv s ∧ Settled s ∧ s.engine.holdReason = .present) ∧
    ((presentEntry 0#7).waitShown = false ∧ (presentEntry 0x40#7).waitShown = true) :=
  ⟨⟨heldStamp_inv (by decide) rfl (by decide) (by decide) (by decide), rfl, rfl, rfl, rfl, rfl, rfl,
      rfl, by decide⟩,
    ⟨heldStamp_inv (by decide) rfl (by decide) (by decide) (by decide), rfl, rfl, by decide⟩,
    fun _ => ⟨heldPresent_inv (by decide) rfl, rfl, rfl⟩, by decide⟩

theorem witness_TheEngineAtAStopOfTheScan :
    (let s := display .showing (waiting (waitEntry 2#8)) ⟨0, none⟩;
      Inv s ∧ Settled s ∧ StopsTheScan (.sample 2399) s) ∧
    (let s := display .stopping (waiting (presentEntry 0x40#7)) ⟨0, some 2⟩;
      Inv s ∧ Settled s ∧ StopsTheScan .pairBoundary s ∧ StopsTheScan (.sample 2000) s) ∧
    (let s := heldWith .stopping .page (stampEntry 1#8);
      Inv s ∧ Settled s ∧ StopsTheScan .pairBoundary s) ∧
    (let s := heldWith .showing .present (presentEntry 0#7);
      Inv s ∧ Settled s ∧ StopsTheScan (.sample 2399) s) := by
  have sampled : ∀ p g pages v, p.scans = true → 2000 ≤ v → v < 2400 →
      StopsTheScan (.sample v) (display p g pages) := fun p g pages v hp h1 h2 =>
    ⟨hp, .inr ⟨v, rfl, h1, by simp [sampleLevelOf, h2, show ¬ 2500 ≤ v by omega], rfl, rfl, rfl, rfl⟩⟩
  exact ⟨⟨waiting_inv (by decide) rfl (.inl rfl) (fun h => (nomatch h)), rfl,
      sampled _ _ _ _ rfl (by decide) (by decide)⟩,
    ⟨waiting_inv (by decide) rfl (.inr rfl) (fun _ => by rfl), rfl, ⟨rfl, .inl ⟨rfl, rfl, rfl, rfl⟩⟩,
      sampled _ _ _ _ rfl (by decide) (by decide)⟩,
    ⟨heldStamp_inv (by decide) rfl (by decide) (by decide) (by decide), rfl,
      ⟨rfl, .inl ⟨rfl, rfl, rfl, rfl⟩⟩⟩,
    ⟨heldPresent_inv (by decide) rfl, rfl, sampled _ _ _ _ rfl (by decide) (by decide)⟩⟩

theorem witness_PanelStatesFixTheDrive :
    (∀ p ∈ [PanelState.off, .discharging, .charging], (atPanel p State.reset).panel.state = p) ∧
    (∀ p ∈ [PanelState.blanked, .stopping, .showing], let s := atPanel p State.reset;
      s.panel.state = p ∧ scanRunning s = true ∧ s.compositor.rowDots = none) ∧
    (let s := { atPanel .showing State.reset with
        compositor := { State.reset.compositor with rowDots := some 1#64 } };
      s.compositor.rowDots = some 1#64 ∧ s.panel.state = .showing ∧ scanRunning s = true ∧
        (1#64).getLsbD 0 = true ∧ (1#64).getLsbD 63 = false) := by decide

theorem witness_ChargeAndDischargeExpire :
    ∀ p ∈ [PanelState.charging, .discharging, .off],
      Settled (atPanel p State.reset) ∧ (atPanel p State.reset).panel.state = p := by
  unfold Settled; decide

/-- The reset state with the supply monitor as given. -/
def sampling (enabled : Bool) (state : SupplyState) (history : Option SampleLevel) : State :=
  { State.reset with supply := ⟨enabled, state, history, 255, 3300⟩ }

theorem witness_ASampleMovesTheSupplyState :
    (∀ state ∈ [SupplyState.ok, .low], ∀ history ∈ [some SampleLevel.good, some .low],
      let s := sampling true state history;
      Settled s ∧ inReset s = false ∧ s.supply.enabled = true ∧ s.supply.state = state ∧
        s.supply.history = history ∧ s.panel.state = .off) ∧
    (Settled (sampling false .ok none) ∧ (sampling false .ok none).supply.enabled = false) ∧
    (2000 ≤ 2000 ∧ 2399 < 2400 ∧ 2500 ≤ 2500 ∧ 1999 < 2000) := by
  unfold Settled; decide

theorem witness_AConfirmedLowDischargesThePanel :
    ∀ p ∈ [PanelState.charging, .showing],
      let s := atPages 0 (some 1) (atPanel p (sampling true .ok (some .low)));
      Settled s ∧ inReset s = false ∧ 2000 ≤ 2399 ∧ sampleLevelOf 2399 = .low ∧ s.supply.enabled = true ∧
        s.supply.state = .ok ∧ s.supply.history = some .low ∧ s.engine.state ≠ .waiting ∧
        (s.engine.state = .held → s.pages.pending = none) ∧ s.panel.state = p := by
  unfold Settled; decide

theorem witness_DeviceResetAndItsRelease :
    (inResetBy true .released).resetInputs.nResetLow = true ∧
      (inResetBy false .released).resetInputs.nResetLow = false := by decide

theorem witness_PowerOnHoldsThePartInReset :
    (inResetBy false .supplyLow).resetInputs.powerOn = .supplyLow ∧
    (inResetBy false .released).resetInputs.powerOn ≠ .supplyLow ∧
    (∀ n ∈ [1, 1024], (inResetBy false (.releasing n)).resetInputs.powerOn = .releasing n ∧
      (inResetBy false (.releasing n)).pending = []) := by decide

/-! ### The invariants are met, and by states in which something is under way -/

theorem witness_TheResetStateMeetsTheInvariants :
    (queued (List.replicate 16 markEntry)).queue.length ≤ 16 ∧ fullRing.length ≤ 8 ∧
    (let s := atPanel .showing State.reset;
      scanRunning s = true ∧ ({ s.scanner with row := 19 } : Scanner).row < 20) ∧
    scanRunning State.reset = false ∧ 0x37 ≤ (0x3F#6).toNat := by decide

theorem witness_EveryStepKeepsMemoryCanonical :
    MemoryInv { State.reset with memory := [(0, 1#8), (0x0E7F, 2#8)] } ∧
      ¬ MemoryInv { State.reset with memory := [(1, 1#8), (0, 2#8)] } := by
  unfold MemoryInv; decide

/-- A COPY to page 1 that runs while page 0 is shown, its source byte being read and an event waiting. -/
def copyUnderWay : State :=
  { display .showing ⟨.running, some (Current.ofEntry (copyEntry 0x0CA0#16 2#16)), .none, false, none, false⟩
      ⟨0, none⟩ with
    arbiter := ⟨some (.engine ⟨.copyRead 0 0x0CA0, false⟩), none, none, none, false⟩
    pending := [.copySourceRead] }

theorem copyUnderWay_inv : Inv copyUnderWay := by
  have zones : ∀ z ∈ (Vector.replicate 8 ZoneEntry.reset).toList, z.inRange := by
    unfold ZoneEntry.inRange; decide
  refine ⟨rfl, by unfold BoundsInv; decide, by unfold WaitingRecordInv; decide,
    ⟨⟨.inl rfl, rfl⟩, fun h => (nomatch h), fun h => (nomatch h)⟩,
    ⟨fun _ => rfl, fun h => (nomatch h), fun _ h => (nomatch h)⟩, by unfold PanelInv; decide,
    fun _ => ⟨by decide, by decide⟩, fun h => (nomatch h), by unfold SupplyInv; decide,
    ⟨zones, zones, ⟨by decide, fun _ => rfl⟩, ⟨by decide, fun _ => rfl⟩⟩, fun h => (nomatch h),
    ⟨fun h => (nomatch h), fun _ h => (nomatch h), ?_, fun _ => rfl⟩, fun h => (nomatch h),
    fun h => (nomatch h), fun h => (nomatch h), ?_,
    ⟨fun _ h => (nomatch h), fun _ h => (nomatch h), fun _ _ h => (nomatch h), ?_, fun _ h => (nomatch h), fun _ _ h => (nomatch h)⟩⟩
  · intro e h _
    cases h
    exact ⟨rfl, by rfl⟩
  · intro c h _ _ _
    cases h
    exact ⟨by decide, fun h => absurd rfl h, fun _ => by decide, fun h => (nomatch h)⟩
  · intro e a h ha
    cases h
    simp only [EngineAccess.addresses, List.mem_cons, List.not_mem_nil, or_false] at ha
    rcases ha with rfl | rfl <;> rfl

theorem witness_EveryStepKeepsTheDisplayInvariants :
    PanelInv copyUnderWay ∧ ScannerInv copyUnderWay ∧ DriveInv copyUnderWay ∧
      SupplyInv copyUnderWay ∧ CompositorInv copyUnderWay ∧ ResetInv copyUnderWay ∧
      DriveInv (atGrant (.row ⟨0, true⟩ 0) State.reset) :=
  have h := copyUnderWay_inv
  ⟨h.2.2.2.2.2.1, h.2.2.2.2.2.2.1, h.2.2.2.2.2.2.2.1, h.2.2.2.2.2.2.2.2.1,
    h.2.2.2.2.2.2.2.2.2.1, h.2.2.2.2.2.2.2.2.2.2.1,
    fun _ => ⟨rfl, fun _ h => (nomatch h), fun _ _ h => by cases h; rfl⟩⟩

theorem witness_EveryStepKeepsTheEngineInvariants : Inv copyUnderWay := copyUnderWay_inv

theorem witness_EveryStepKeepsThePictureTearFree :
    Inv copyUnderWay ∧ TearFree copyUnderWay ∧ copyUnderWay.engine.state = .running ∧
      scanRunning copyUnderWay = true ∧ copyUnderWay.pending.head? ≠ some .chargeExpiry ∧
      Ready copyUnderWay ∧ (copyEntry 0x0CA0#16 2#16).flags.getLsbD 1 = false ∧
    (Inv copyDropped ∧ droppedOutstanding copyDropped = true ∧
      copyDropped.pending.head? = some .pairBoundary ∧ isResetEvent .pairBoundary = false) := by
  refine ⟨copyUnderWay_inv, ?_, rfl, rfl, by decide, ⟨rfl, rfl, rfl⟩, rfl, copyDropped_inv, rfl, rfl, rfl⟩
  intro c _ h _ _
  cases h
  exact ⟨by decide, fun _ h => (nomatch h)⟩

end Sys2Proof.Tests
end

namespace Sys2Proof.Machine

/-! # The command queue (02_command_queue.md)

First what the queue's operations do, case by case, and what the registers and flags show of it; then the
commands in a ready part; then the obligations, assembled from these. -/

/-! ## Kinds and codes -/

@[simp] theorem kindOfCode_code (k : Kind) : kindOfCode k.code = some k := by
  cases k <;> rfl

/-- The codes that Table 2-1 leaves unassigned name no kind (R26). -/
theorem kindOfCode_eq_none {code : Byte} (h : code.toNat = 0 ∨ 7 ≤ code.toNat) :
    kindOfCode code = none := by
  unfold kindOfCode
  split
  case h_7 => rfl
  all_goals omega

/-! ## The operations of the queue -/

theorem pushEntry_of_unassigned {code : Byte} (h : code.toNat = 0 ∨ 7 ≤ code.toNat) (s : State) :
    pushEntry code s = latchReject s := by
  simp [pushEntry, kindOfCode_eq_none h]

theorem pushEntry_of_full {s : State} (h : 16 ≤ s.queue.length) (k : Kind) :
    pushEntry k.code s = latchOverrun s := by
  simp [pushEntry, queueCapacity, Nat.not_lt.mpr h]

theorem pushEntry_of_space {s : State} (h : s.queue.length < 16) (k : Kind) :
    pushEntry k.code s = s.withQueue (s.queue ++ [stagedEntry k s.staging]) := by
  simp [pushEntry, queueCapacity, h]

theorem setSpaceThreshold_of_accepted {v : Byte} (hLow : 1 ≤ v.toNat) (hHigh : v.toNat ≤ 16)
    (s : State) : setSpaceThreshold v s = s.withSpaceThreshold v :=
  if_pos ⟨hLow, hHigh⟩

theorem setSpaceThreshold_of_refused {v : Byte} (h : v.toNat = 0 ∨ 17 ≤ v.toNat) (s : State) :
    setSpaceThreshold v s = refuse s :=
  if_neg (by omega)

/-- An engine reset leaves SPACE_THRESHOLD (R35). -/
@[simp] theorem resetEngine_spaceThreshold (s : State) :
    (resetEngine s).spaceThreshold = s.spaceThreshold := rfl

/-- A device reset returns SPACE_THRESHOLD to 4 (R34). -/
@[simp] theorem takeDeviceReset_spaceThreshold (s : State) :
    (takeDeviceReset s).spaceThreshold = 4#8 := rfl

/-! ## What the registers and SPACE show of the queue -/

/-- QUEUE_COUNT is a byte, which holds every length up to the capacity. -/
theorem readQueueCount_toNat {s : State} (h : s.queue.length ≤ 16) :
    (readRegister s 0x03#6).toNat = s.queue.length := by
  change (BitVec.ofNat 8 s.queue.length).toNat = s.queue.length
  rw [BitVec.toNat_ofNat]
  exact Nat.mod_eq_of_lt (by omega)

theorem spaceFlag_iff (s : State) :
    spaceFlag s = true ↔ s.spaceThreshold.toNat ≤ 16 - s.queue.length :=
  decide_eq_true_iff

/-! ## The commands in a ready part -/

theorem exec_push_of_ready {s : State} (h : Ready s) (code : Byte) :
    exec (.push code) s = .next (pushEntry code s) :=
  congrArg Host.Outcome.next (onBus_of_ready h _)

theorem exec_spaceThreshold_of_ready {s : State} (h : Ready s) (v : Byte) :
    exec (.spaceThreshold v) s = .next (setSpaceThreshold v s) :=
  congrArg Host.Outcome.next (onBus_of_ready h _)

theorem exec_flush_of_ready {s : State} (h : Ready s) :
    exec .flush s = .next (s.withQueue []) :=
  congrArg Host.Outcome.next (onBus_of_ready h _)

theorem exec_engineReset_of_ready {s : State} (h : Ready s) :
    exec .engineReset s = .next (resetEngine s) :=
  congrArg Host.Outcome.next (onBus_of_ready h _)

/-- A push onto a queue with room, as its command. -/
theorem exec_push_of_space {s : State} (h : Ready s) (hSpace : s.queue.length < 16) (k : Kind) :
    exec (.push k.code) s = .next (s.withQueue (s.queue ++ [stagedEntry k s.staging])) := by
  rw [exec_push_of_ready h, pushEntry_of_space hSpace]

/-- The six takes are one operation, with the disposal of the kind. -/
theorem exec_takeCommand (k : Kind) (s : State) :
    exec k.takeCommand s = .next (takeAnd k (disposal k) s) := by
  cases k <;> rfl

/-- Whether the part is ready does not depend on SPACE_THRESHOLD. -/
theorem Ready.withSpaceThreshold {s : State} (h : Ready s) (v : Byte) :
    Ready (s.withSpaceThreshold v) := h

/-! ## The obligations -/

/-- Settles O8: the three branches of the push, told apart by the code and by the length of the queue. -/
theorem pushAppendsRejectsOrOverruns : Obligations.PushAppendsRejectsOrOverruns := by
  intro s hReady
  refine ⟨fun code hCode => ?_, fun k hFull => ?_, fun k hSpace => ?_⟩
  · rw [exec_push_of_ready hReady, pushEntry_of_unassigned hCode]
    rfl
  · rw [exec_push_of_ready hReady, pushEntry_of_full hFull]
    rfl
  · have hLength : (s.withQueue (s.queue ++ [stagedEntry k s.staging])).queue.length =
        s.queue.length + 1 := List.length_append
    refine ⟨_, exec_push_of_space hReady hSpace k, rfl, ?_, ?_⟩
    · rw [readQueueCount_toNat (hLength.trans_le hSpace), readQueueCount_toNat hSpace.le, hLength]
    · rw [spaceFlag_iff, hLength, State.withQueue_spaceThreshold]

/-- Settles O9: the write by the range of its value, the resets by the block they set, and the push by its
next state at either threshold. -/
theorem spaceThresholdAcceptsOneToSixteen : Obligations.SpaceThresholdAcceptsOneToSixteen := by
  intro s v hReady
  refine ⟨fun hLow hHigh => ⟨?_, spaceFlag_iff _⟩, fun hRefused => ?_, rfl,
    ⟨_, rfl, takeDeviceReset_spaceThreshold s⟩,
    ⟨_, exec_engineReset_of_ready hReady, resetEngine_spaceThreshold s⟩, fun k hSpace => ?_⟩
  · rw [exec_spaceThreshold_of_ready hReady, setSpaceThreshold_of_accepted hLow hHigh]
    rfl
  · rw [exec_spaceThreshold_of_ready hReady, setSpaceThreshold_of_refused hRefused]
    rfl
  · exact ⟨_, _, exec_push_of_space hReady hSpace k,
      exec_push_of_space (hReady.withSpaceThreshold v) hSpace k, rfl, List.length_append⟩

/-- Settles O10: FLUSH acts on the queue alone, and every take finds it empty. -/
theorem flushEmptiesTheQueueAndNothingElse : Obligations.FlushEmptiesTheQueueAndNothingElse := by
  intro s hReady
  refine ⟨exec_flush_of_ready hReady, rfl, fun hThreshold => (spaceFlag_iff _).mpr hThreshold,
    fun k => ?_⟩
  rw [exec_takeCommand, takeAnd_of_empty rfl]

end Sys2Proof.Machine

namespace Sys2Proof.Machine

/-! # Scanning and composition (07_scanning_and_composition.md)

First the dots of a latched row: what covers a dot, what the covering zone makes of it, and where its
page bit stands. Then the blink groups at a pair boundary: a group by itself, and what the engine's part of
the boundary leaves unchanged. The obligations are assembled from these. -/

/-! ## The zone that covers a dot -/

/-- R132's cover: enabled, and both bounds inclusive. -/
theorem ZoneEntry.covers_iff (z : ZoneEntry) (r c : Nat) : z.covers r c = true ↔
    z.enable = true ∧ z.firstColumn.toNat ≤ c ∧ c ≤ z.lastColumn.toNat ∧
      z.firstRow.toNat ≤ r ∧ r ≤ z.lastRow.toNat := by
  simp [ZoneEntry.covers, and_assoc]

theorem coveringZone_of_uncovered {k : Compositor} {r c : Nat}
    (h : ∀ i, ¬ (k.activeZones.get i).covers r c) : k.coveringZone r c = none := by
  refine List.find?_eq_none.mpr fun z hMem => ?_
  obtain ⟨i, hi, rfl⟩ := List.mem_iff_getElem.mp hMem
  exact h ⟨i, by simpa using hi⟩

/-- R140's choice: of the zones that cover a dot, the one of lowest index. -/
theorem coveringZone_of_lowest {k : Compositor} {r c : Nat} {i : Fin 8}
    (hCovers : (k.activeZones.get i).covers r c = true)
    (hLowest : ∀ j, j < i → ¬ (k.activeZones.get j).covers r c) :
    k.coveringZone r c = some (k.activeZones.get i) := by
  refine List.find?_eq_some_iff_getElem.mpr ⟨hCovers, i.val, by simp, rfl, fun j hj => ?_⟩
  change (!(k.activeZones.get ⟨j, hj.trans i.isLt⟩).covers r c) = true
  simpa using hLowest ⟨j, hj.trans i.isLt⟩ hj

/-! ## The dots of a row -/

/-- A dot outside every zone shows its base value (R140). -/
theorem dotValue_of_uncovered {s : State} {r c : Nat}
    (h : ∀ i, ¬ (s.compositor.activeZones.get i).covers r c) (bit : Bool) :
    dotValue s r c bit = (bit ^^ s.scanner.active.reverse) := by
  simp [dotValue, coveringZone_of_uncovered h]

/-- A covered dot shows what its lowest zone's effect makes of the base value (R140, R141). -/
theorem dotValue_of_lowest {s : State} {r c : Nat} {i : Fin 8}
    (hCovers : (s.compositor.activeZones.get i).covers r c = true)
    (hLowest : ∀ j, j < i → ¬ (s.compositor.activeZones.get j).covers r c) (bit : Bool) :
    dotValue s r c bit =
      (s.compositor.activeZones.get i).effect.apply
        (s.compositor.phaseOf (s.compositor.activeZones.get i).group)
        (bit ^^ s.scanner.active.reverse) := by
  simp [dotValue, coveringZone_of_lowest hCovers hLowest]

/-- The page bit of a dot stands in the byte of its row and column (R4, R10). -/
theorem rowBit_rowBytes (s : State) (p : Fin 4) (r : Nat) {c : Nat} (h : c < 64) :
    rowBit (rowBytes s p r) c =
      (byteAt s (0x0C00 + 160 * p.val + 8 * r + c / 8)).getLsbD (7 - c % 8) := by
  have hByte : c / 8 < 8 := by omega
  simp [rowBit, rowBytes, rowAddress, pageBase, pageMemoryBase, dotBit, List.getD, hByte]

theorem composeRow_getLsbD (s : State) (r : Nat) (bytes : List Byte) {c : Nat} (h : c < 64) :
    (composeRow s r bytes).getLsbD c = dotValue s r c (rowBit bytes c) :=
  getLsbD_ofBits _ h

/-- The latch of a row whose read is not discarded fixes its dots and frees the arbiter (R10, R126). -/
theorem exec_rowLatch_of_settled {s : State} {r : Nat} {p : Fin 4}
    (hGrant : s.arbiter.grant = some (.row ⟨r, false⟩ p)) (hSettled : Settled s) :
    exec .rowLatch s = .next (arbitrate ((release s).withCompositor { s.compositor with
      rowDots := some (composeRow s r (rowBytes s p r)) })) := by
  change Host.Outcome.next (onEvent rowGrantEnds s) = _
  rw [onEvent_of_settled hSettled, rowGrantEnds, hGrant]
  rfl

/-! ## A blink group at a pair boundary -/

/-- Whatever its phase does, the group has the staged setting active and its mark used up (R137). -/
theorem atPairBoundary_settings (b : Blink) :
    b.atPairBoundary.staged = b.staged ∧ b.atPairBoundary.active = b.staged ∧
      b.atPairBoundary.restart = false := by
  unfold Blink.atPairBoundary
  dsimp only
  split_ifs <;> exact ⟨rfl, rfl, rfl⟩

theorem atPairBoundary_of_restart {b : Blink} (h : b.restart = true) :
    b.atPairBoundary.phase = .on ∧ b.atPairBoundary.position = 0 := by
  simp [Blink.atPairBoundary, h]

/-- An on phase gives way to an off phase at the on-count just taken from the staged setting. -/
theorem atPairBoundary_of_on {b : Blink} (hRestart : b.restart = false) (hPhase : b.phase = .on) :
    (b.position + 1 = b.staged.onCount →
      b.atPairBoundary.phase = .off ∧ b.atPairBoundary.position = 0) ∧
    (b.position + 1 ≠ b.staged.onCount →
      b.atPairBoundary.phase = .on ∧ b.atPairBoundary.position = b.position + 1) := by
  constructor <;> intro hCount <;> simp [Blink.atPairBoundary, hRestart, hPhase, hCount]

/-- An off phase gives way to an on phase at the off-count just taken from the staged setting. -/
theorem atPairBoundary_of_off {b : Blink} (hRestart : b.restart = false) (hPhase : b.phase = .off) :
    (b.position + 1 = b.staged.offCount →
      b.atPairBoundary.phase = .on ∧ b.atPairBoundary.position = 0) ∧
    (b.position + 1 ≠ b.staged.offCount →
      b.atPairBoundary.phase = .off ∧ b.atPairBoundary.position = b.position + 1) := by
  constructor <;> intro hCount <;> simp [Blink.atPairBoundary, hRestart, hPhase, hCount]

/-! ## What a pair boundary does at the compositor -/

/-- The engine's next request changes the arbiter and nothing else. -/
theorem raiseEngine_frame (s : State) : ∃ arbiter, raiseEngine s = s.withArbiter arbiter := by
  unfold raiseEngine
  split
  · split
    · exact ⟨s.arbiter, rfl⟩
    · split
      · obtain ⟨arbiter, h⟩ := arbitrate_frame (s.withArbiter _)
        exact ⟨arbiter, h⟩
      · exact ⟨s.arbiter, rfl⟩
  · exact ⟨s.arbiter, rfl⟩

/-- The fault of the current command acts on the ring and the engine and on nothing else. -/
theorem faultWith_frame (status : Status) (s : State) :
    ∃ ring engine, faultWith status s = { s with ring := ring, engine := engine } := by
  cases h : s.engine.current with
  | none => exact ⟨s.ring, s.engine, by simp [faultWith, h]⟩
  | some c =>
    rw [faultWith_eq h]
    exact endsInFault_frame _ s

/-- Beginning a command acts on the engine and the arbiter and on nothing else. -/
theorem beginDrawing_frame (s : State) :
    ∃ engine arbiter, beginDrawing s = { s with engine := engine, arbiter := arbiter } := by
  unfold beginDrawing
  split
  · exact ⟨s.engine, s.arbiter, rfl⟩
  · obtain ⟨arbiter, h⟩ := raiseEngine_frame (s.withEngine _)
    exact ⟨_, arbiter, h⟩

/-- The hold rule begins, holds or faults its command, and leaves the display as it stands. -/
theorem holdRule_frame (s : State) : ∃ ring engine arbiter,
    holdRule s = { s with ring := ring, engine := engine, arbiter := arbiter } := by
  have hBegin : ∃ ring engine arbiter,
      beginDrawing s = { s with ring := ring, engine := engine, arbiter := arbiter } :=
    ⟨s.ring, beginDrawing_frame s⟩
  cases hCurrent : s.engine.current with
  | none => exact ⟨s.ring, s.engine, s.arbiter, by simp [holdRule, hCurrent]⟩
  | some c =>
    by_cases hRule : HoldRuleAllows c.entry s
    · rwa [holdRule_begins hCurrent hRule]
    · cases hPending : s.pages.pending with
      | none =>
        obtain ⟨ring, engine, h⟩ := faultWith_frame .shownPage s
        exact ⟨ring, engine, s.arbiter, (holdRule_faults hCurrent hRule hPending).trans h⟩
      | some q =>
        rw [holdRule_holds hCurrent hRule (by simp [hPending]), hold_eq hCurrent]
        exact ⟨s.ring, _, s.arbiter, rfl⟩

/-- A held command judged again acts on the ring, the engine, the pages and the arbiter alone. -/
theorem reevaluate_frame (s : State) : ∃ ring engine pages arbiter,
    reevaluate s = { s with ring := ring, engine := engine, pages := pages, arbiter := arbiter } := by
  unfold reevaluate
  split
  · obtain ⟨ring, engine, arbiter, h⟩ := holdRule_frame s
    exact ⟨ring, engine, s.pages, arbiter, h⟩
  · obtain ⟨ring, engine, pages, h⟩ := handOver_frame s
    exact ⟨ring, engine, pages, s.arbiter, h⟩
  · exact ⟨s.ring, s.engine, s.pages, s.arbiter, rfl⟩

/-- The engine's part of a boundary or of a stop acts on the ring, the engine, the pages and the arbiter
alone: a WAIT is counted or ends, a PRESENT ends, or a held command is judged again. -/
theorem engineTakesScanEvent_frame (counted stopped switched : Bool) (s : State) :
    ∃ ring engine pages arbiter, engineTakesScanEvent counted stopped switched s =
      { s with ring := ring, engine := engine, pages := pages, arbiter := arbiter } := by
  have hSame : ∃ ring engine pages arbiter,
      s = { s with ring := ring, engine := engine, pages := pages, arbiter := arbiter } :=
    ⟨s.ring, s.engine, s.pages, s.arbiter, rfl⟩
  have hComplete : ∀ status progress held g, ∃ ring engine pages arbiter,
      complete status progress false held (s.withEngine g) =
        { s with ring := ring, engine := engine, pages := pages, arbiter := arbiter } := by
    intro status progress held g
    obtain ⟨ring, engine, h⟩ := complete_frame status progress false held (s.withEngine g)
    exact ⟨ring, engine, s.pages, s.arbiter, h⟩
  unfold engineTakesScanEvent
  split
  · rename_i c _ _
    cases c.entry.kind with
    | wait =>
      dsimp only
      generalize (if counted then c.progress + 1 else c.progress) = n
      split_ifs
      · exact hComplete .done n false _
      · exact hComplete .noScan n false _
      · exact ⟨s.ring, _, s.pages, s.arbiter, rfl⟩
    | present =>
      dsimp only
      split_ifs
      · exact hComplete .done 0 c.heldOnce s.engine
      · exact hSame
    | copy | stamp | zone | mark => exact hSame
  · split_ifs
    · exact reevaluate_frame s
    · exact hSame
  · exact hSame

/-- The compositor takes no part in what the engine does at a boundary or a stop. -/
@[simp] theorem engineTakesScanEvent_compositor (counted stopped switched : Bool) (s : State) :
    (engineTakesScanEvent counted stopped switched s).compositor = s.compositor := by
  obtain ⟨_, _, _, _, h⟩ := engineTakesScanEvent_frame counted stopped switched s
  rw [h]

@[simp] theorem panelAtPairBoundary_compositor (s : State) :
    (panelAtPairBoundary s).compositor = s.compositor := by
  unfold panelAtPairBoundary
  simp only
  split <;> rfl

/-- Before the engine takes its part, the staged zones and blink settings have become active. -/
theorem activated_compositor (s : State) :
    (switchPage (activateSettings (latchPair (countFrame s)))).compositor = { s.compositor with
      activeZones := s.compositor.stagedZones
      blinkA := s.compositor.blinkA.atPairBoundary
      blinkB := s.compositor.blinkB.atPairBoundary } := by
  rw [switchPage_eq]
  rfl

/-- Whether the scan stops or goes on, a pair boundary activates the staged zones, takes both blink groups
over the boundary and drives no dots until the next latch (R122, R126, R137). -/
theorem takePairBoundary_compositor (s : State) :
    (takePairBoundary s).compositor = { s.compositor with
      activeZones := s.compositor.stagedZones
      blinkA := s.compositor.blinkA.atPairBoundary
      blinkB := s.compositor.blinkB.atPairBoundary
      rowDots := none } := by
  unfold takePairBoundary
  simp only
  split
  · rw [engineTakesScanEvent_compositor, stopDrive_eq, enterDischarging_eq]
    simp only [activated_compositor]
  · rw [startRow_eq]
    simp only [engineTakesScanEvent_compositor, panelAtPairBoundary_compositor,
      activated_compositor]

/-- A negative frame that ends while the scan runs is a pair boundary (R121, R122). -/
theorem exec_pairBoundary_of_settled {s : State} (hSettled : Settled s)
    (hScan : scanRunning s = true) (hPolarity : s.scanner.polarity = .negative)
    (hRow : s.scanner.row + 1 = activeCommons s) :
    exec .pairBoundary s = .next (takePairBoundary s) := by
  change Host.Outcome.next (onEvent negativeFrameEnds s) = _
  rw [onEvent_of_settled hSettled, negativeFrameEnds, if_pos ⟨hScan, hPolarity, hRow⟩]

/-! ## The obligations -/

/-- Settles O42: the zone search finds nothing where no zone covers the dot, and otherwise the lowest zone
that does. -/
theorem eachDotFollowsItsLowestZone : Obligations.EachDotFollowsItsLowestZone := by
  intro s r p hGrant hSettled
  obtain ⟨b, hFrame⟩ := arbitrate_frame ((release s).withCompositor { s.compositor with
    rowDots := some (composeRow s r (rowBytes s p r)) })
  refine ⟨_, composeRow s r (rowBytes s p r), exec_rowLatch_of_settled hGrant hSettled,
    by rw [hFrame]; rfl, by rw [hFrame]; rfl, fun c hColumn base hBase covered hCovered => ?_⟩
  have hCovers : ∀ i, (s.compositor.activeZones.get i).covers r c = true ↔ covered i := fun i =>
    (ZoneEntry.covers_iff _ r c).trans (hCovered i _ rfl).symm
  rw [composeRow_getLsbD s r _ hColumn, rowBit_rowBytes s p r hColumn]
  constructor
  · intro hNone
    rw [dotValue_of_uncovered fun i => mt (hCovers i).mp (hNone i), hBase]
  · rintro i z rfl hCovering hLowest phase rfl
    rw [dotValue_of_lowest ((hCovers i).mpr hCovering)
      (fun j hj => mt (hCovers j).mp (hLowest j hj)), ← hBase]
    rfl

/-- Settles O46: both groups are taken over the boundary whatever the panel and the engine do at it, and a
group by itself restarts, changes its phase or counts on. -/
theorem blinkGroupsAdvanceAtPairBoundaries : Obligations.BlinkGroupsAdvanceAtPairBoundaries := by
  intro s hSettled hScan hPolarity hRow
  refine ⟨_, exec_pairBoundary_of_settled hSettled hScan hPolarity hRow, fun b b' hGroup => ?_⟩
  have hTaken : b' = b.atPairBoundary := by
    rw [takePairBoundary_compositor] at hGroup
    rcases hGroup with ⟨rfl, rfl⟩ | ⟨rfl, rfl⟩ <;> rfl
  subst hTaken
  obtain ⟨hStaged, hActive, hMark⟩ := atPairBoundary_settings b
  exact ⟨hStaged, hActive, hMark, atPairBoundary_of_restart, atPairBoundary_of_on,
    atPairBoundary_of_off⟩

end Sys2Proof.Machine

namespace Sys2Proof.Machine

/-! # What a command is to the part

Every command is the take of an entry, an access of the host, the end of a grant, an event of the scan or
of a timer, or an event of the reset inputs. What takes and grant ends keep, and each access and event
brings to a second property, every command brings to it: the invariants below are proved through this one
induction over commands. -/

/-- The part that a command plays. -/
inductive Role where
  | take (kind : Kind)
  | write (offset : BitVec 6) (value : Byte)
  | portRead
  | frameRead
  | grantEnd (ends : State → State)
  | timed (event : State → State)
  | reset (event : State → State)

/-- The role of each command. After the commands named here come the host writes and the read of
FRAME_COUNT lo, which is no write. -/
def role : Instr → Role
  | .copy => .take .copy
  | .stamp => .take .stamp
  | .present => .take .present
  | .zone => .take .zone
  | .wait => .take .wait
  | .mark => .take .mark
  | .portDataRead => .portRead
  | .rowLatch => .grantEnd rowGrantEnds
  | .dataPortGrant => .grantEnd portGrantEnds
  | .copySourceRead => .grantEnd copyReadEnds
  | .copyDestinationWrite => .grantEnd copyWriteEnds
  | .stampSourceRead => .grantEnd stampReadEnds
  | .stampReadModifyWrite => .grantEnd stampModifyEnds
  | .rowChange => .timed rowEnds
  | .frameBoundary => .timed positiveFrameEnds
  | .pairBoundary => .timed negativeFrameEnds
  | .chargeExpiry => .timed chargeTimerEnds
  | .dischargeExpiry => .timed dischargeTimerEnds
  | .sample millivolts => .timed (sampleTimerEnds millivolts)
  | .deviceReset => .reset takeDeviceReset
  | .resetRelease => .reset releaseReset
  | .powerOnReset => .reset takePowerOnReset
  | .supplyRise => .reset takeSupplyRise
  | .powerOnRelease => .reset takePowerOnRelease
  | c => match busWrite c with
    | some (offset, v) => .write offset v
    | none => .frameRead

/-- What a role does to the state. -/
def Role.run : Role → State → State
  | .take k => takeAnd k (disposal k)
  | .write offset v => onBus (writeRegister offset v)
  | .portRead => onBus readPortData
  | .frameRead => onBus readFrameCountLo
  | .grantEnd ends => onEvent ends
  | .timed event => onEvent event
  | .reset event => event

/-- Every command answers the next state that its role gives. -/
theorem exec_eq_role (c : Instr) (s : State) : exec c s = .next ((role c).run s) := by
  cases c with
  | blinkWrite group v => cases group <;> rfl
  | irqStatusClear byte v => cases byte <;> rfl
  | irqEnable byte v => cases byte <;> rfl
  | _ => rfl

/-- A host write is the write of its register (R163). -/
theorem role_of_busWrite {c : Instr} {offset : BitVec 6} {v : Byte}
    (h : busWrite c = some (offset, v)) : role c = .write offset v := by
  cases c with
  | blinkWrite group v => cases group <;> cases h <;> rfl
  | irqStatusClear byte v => cases byte <;> cases h <;> rfl
  | irqEnable byte v => cases byte <;> cases h <;> rfl
  | _ => cases h <;> rfl

theorem exec_of_busWrite {c : Instr} {offset : BitVec 6} {v : Byte}
    (h : busWrite c = some (offset, v)) (s : State) :
    exec c s = .next (onBus (writeRegister offset v) s) := by
  rw [exec_eq_role, role_of_busWrite h]
  rfl

/-- The end of a grant that a command names ends the grant in progress or changes nothing. -/
theorem grantEnd_cases {c : Instr} {ends : State → State} (h : role c = .grantEnd ends) (s : State) :
    ends s = endGrant s ∨ ends s = s := by
  have key : ∀ f ∈ [rowGrantEnds, portGrantEnds, copyReadEnds, copyWriteEnds, stampReadEnds,
      stampModifyEnds], f s = endGrant s ∨ f s = s := by
    simp only [List.forall_mem_cons, rowGrantEnds, portGrantEnds, copyReadEnds, copyWriteEnds,
      stampReadEnds, stampModifyEnds, endGrant]
    refine ⟨?_, ?_, ?_, ?_, ?_, ?_, by simp⟩ <;> split <;>
      first | exact .inr rfl | (rename_i hg; rw [hg]; exact .inl rfl)
  refine key ends ?_
  cases c with
  | blinkWrite group v => cases group <;> cases h
  | irqStatusClear byte v => cases byte <;> cases h
  | irqEnable byte v => cases byte <;> cases h
  | _ => cases h <;> simp

/-- The take that a command names takes the head entry or changes nothing. -/
theorem takeAnd_cases (k : Kind) (s : State) :
    takeAnd k (disposal k) s = takeNext s ∨ takeAnd k (disposal k) s = s := by
  cases hQueue : s.queue with
  | nil => exact .inr (takeAnd_of_empty hQueue k _)
  | cons e rest =>
    by_cases hKind : e.kind = k
    · subst hKind
      exact .inl (by simp only [takeNext, hQueue])
    · have hTake : takeHead k s = none := by
        unfold takeHead
        rw [hQueue]
        split
        · rename_i heq; cases heq; exact if_neg hKind
        · rfl
      exact .inr (by simp [takeAnd, hTake])

/-! ## The induction over commands -/

/-- `P` holds on through the takes and the grant ends that come before an event or an access. -/
structure KeptByPart (P : State → Prop) : Prop where
  take : ∀ s, P s → P (takeNext s)
  grant : ∀ s, P s → P (endGrant s)

section
variable {P : State → Prop} (h : KeptByPart P)
include h

theorem KeptByPart.settleTakes (n : Nat) : ∀ s, P s → P (settleTakes n s) := by
  induction n with
  | zero => exact fun _ hs => hs
  | succ n ih =>
    intro s hs
    rw [Machine.settleTakes]
    split
    · exact ih _ (h.take s hs)
    · exact hs

theorem KeptByPart.settleAccess (n : Nat) : ∀ s, P s → P (settleAccess n s) := by
  induction n with
  | zero => exact fun _ hs => hs
  | succ n ih =>
    intro s hs
    rw [Machine.settleAccess]
    split
    · exact ih _ (h.grant s hs)
    · exact hs

theorem KeptByPart.settleEngine (n : Nat) : ∀ s, P s → P (settleEngine n s) := by
  induction n with
  | zero => exact fun _ hs => hs
  | succ n ih =>
    intro s hs
    rw [Machine.settleEngine]
    split
    · exact ih _ (h.grant s hs)
    · exact hs

theorem KeptByPart.beforePortGrant (s : State) (hs : P s) : P (beforePortGrant s) :=
  h.settleEngine _ s hs

theorem KeptByPart.beforeAccess (s : State) (hs : P s) : P (beforeAccess s) :=
  h.settleTakes _ _ (h.settleAccess _ _ (h.settleTakes _ s hs))

end

/-- What takes and grant ends keep as `P`, a command brings to `Q`, where `Met` is known of the state an
access of the host meets and `Still` of the state an event meets. -/
theorem exec_leads {P Q Met Still : State → Prop} (hPart : KeptByPart P) (hSame : ∀ s, P s → Q s)
    (hMet : ∀ s, P s → inReset s = false → Met (beforeAccess s))
    (hStill : ∀ s, P s → Still (settleTakes queueCapacity s))
    (hWrite : ∀ offset v s, P s → Met s → Q (writeRegister offset v s))
    (hPortRead : ∀ s, P s → Met s → Q (readPortData s))
    (hFrameRead : ∀ s, P s → Met s → Q (readFrameCountLo s))
    (c : Instr)
    (hTimed : ∀ event, role c = .timed event → ∀ s, P s → Still s → Q (event s))
    (hReset : ∀ event, role c = .reset event → ∀ s, P s → Q (event s))
    (s : State) (hs : P s) : ∃ t, exec c s = .next t ∧ Q t := by
  refine ⟨_, exec_eq_role c s, ?_⟩
  have hSettled : P (settleTakes queueCapacity s) := hPart.settleTakes _ s hs
  have hAccess : ∀ effect : State → State, (∀ u, P u → Met u → Q (effect u)) →
      Q (onBus effect s) := by
    intro effect hEffect
    unfold onBus
    split
    · exact hSame s hs
    · rename_i hOut
      exact hEffect _ (hPart.beforeAccess s hs) (hMet s hs (Bool.eq_false_of_not_eq_true hOut))
  cases hRole : role c with
  | take k =>
    rcases takeAnd_cases k s with h | h <;> rw [Role.run, h]
    · exact hSame _ (hPart.take s hs)
    · exact hSame s hs
  | write offset v => exact hAccess _ (hWrite offset v)
  | portRead => exact hAccess _ hPortRead
  | frameRead => exact hAccess _ hFrameRead
  | grantEnd ends =>
    rcases grantEnd_cases hRole (settleTakes queueCapacity s) with h | h <;>
      rw [Role.run, onEvent, h]
    · exact hSame _ (hPart.grant _ hSettled)
    · exact hSame _ hSettled
  | timed event => exact hTimed event hRole _ hSettled (hStill s hs)
  | reset event => exact hReset event hRole s hs

/-- What holds of the six timed events holds of every one. -/
theorem timed_cases {motive : Instr → (State → State) → Prop} (hRow : motive .rowChange rowEnds)
    (hPositive : motive .frameBoundary positiveFrameEnds)
    (hNegative : motive .pairBoundary negativeFrameEnds)
    (hCharge : motive .chargeExpiry chargeTimerEnds)
    (hDischarge : motive .dischargeExpiry dischargeTimerEnds)
    (hSample : ∀ millivolts, motive (.sample millivolts) (sampleTimerEnds millivolts))
    {c : Instr} {event : State → State} (h : role c = .timed event) : motive c event := by
  cases c with
  | blinkWrite group v => cases group <;> cases h
  | irqStatusClear byte v => cases byte <;> cases h
  | irqEnable byte v => cases byte <;> cases h
  | rowChange => cases h; exact hRow
  | frameBoundary => cases h; exact hPositive
  | pairBoundary => cases h; exact hNegative
  | chargeExpiry => cases h; exact hCharge
  | dischargeExpiry => cases h; exact hDischarge
  | sample millivolts => cases h; exact hSample millivolts
  | _ => cases h

/-- What holds of the five events of the reset inputs holds of every one. -/
theorem reset_cases {motive : (State → State) → Prop} (hFall : motive takeDeviceReset)
    (hRise : motive releaseReset) (hPower : motive takePowerOnReset) (hSupply : motive takeSupplyRise)
    (hRelease : motive takePowerOnRelease) {c : Instr} {event : State → State}
    (h : role c = .reset event) : motive event := by
  cases c with
  | blinkWrite group v => cases group <;> cases h
  | irqStatusClear byte v => cases byte <;> cases h
  | irqEnable byte v => cases byte <;> cases h
  | deviceReset => cases h; exact hFall
  | resetRelease => cases h; exact hRise
  | powerOnReset => cases h; exact hPower
  | supplyRise => cases h; exact hSupply
  | powerOnRelease => cases h; exact hRelease
  | _ => cases h

/-- The role of a reset event. -/
theorem isResetEvent_of_role {c : Instr} {event : State → State} (h : role c = .reset event) :
    isResetEvent c = true := by
  cases c with
  | blinkWrite group v => cases group <;> cases h
  | irqStatusClear byte v => cases byte <;> cases h
  | irqEnable byte v => cases byte <;> cases h
  | _ => first | rfl | cases h

end Sys2Proof.Machine

namespace Sys2Proof.Machine

/-! # What leaves the display as it stands

The engine, the queue, the ring, the host port and the arbiter act on memory, the scanner, the panel, the
supply monitor, the compositor and the reset inputs only through a few operations. Everything else they do
is a `DisplayFrame`: those blocks stay, and no row request or row read is new. -/

/-- A row request or row-read grant for `r` is at the arbiter. -/
def Arbiter.holdsRow (b : Arbiter) (r : RowRequest) : Prop :=
  b.rowRequest = some r ∨ ∃ p, b.grant = some (.row r p)

/-- `t` shows the same memory, display blocks, reset inputs and waiting commands as `s`, and no row request
or row read that `s` does not hold. -/
structure DisplayFrame (s t : State) : Prop where
  memory : t.memory = s.memory
  scanner : t.scanner = s.scanner
  compositor : t.compositor = s.compositor
  panel : t.panel = s.panel
  supply : t.supply = s.supply
  resetInputs : t.resetInputs = s.resetInputs
  pending : t.pending = s.pending
  rows : ∀ r, t.arbiter.holdsRow r → s.arbiter.holdsRow r

theorem DisplayFrame.refl (s : State) : DisplayFrame s s :=
  ⟨rfl, rfl, rfl, rfl, rfl, rfl, rfl, fun _ h => h⟩

theorem DisplayFrame.trans {s t u : State} (h : DisplayFrame s t) (h' : DisplayFrame t u) :
    DisplayFrame s u :=
  ⟨h'.memory.trans h.memory, h'.scanner.trans h.scanner, h'.compositor.trans h.compositor,
    h'.panel.trans h.panel, h'.supply.trans h.supply, h'.resetInputs.trans h.resetInputs,
    h'.pending.trans h.pending, fun r hr => h.rows r (h'.rows r hr)⟩

/-- Whatever happens to the other blocks, the display stays. -/
theorem DisplayFrame.of_blocks (s : State) (queue : List Entry) (staging : Staging) (threshold : Byte)
    (engine : Engine) (ring : List Record) (pages : Presentation) (port : Port) (irq : Irq) :
    DisplayFrame s { s with
      queue := queue, staging := staging, spaceThreshold := threshold, engine := engine, ring := ring
      pages := pages, port := port, irq := irq } :=
  ⟨rfl, rfl, rfl, rfl, rfl, rfl, rfl, fun _ h => h⟩

theorem DisplayFrame.of_arbiter {s : State} {b : Arbiter}
    (h : ∀ r, b.holdsRow r → s.arbiter.holdsRow r) : DisplayFrame s (s.withArbiter b) :=
  ⟨rfl, rfl, rfl, rfl, rfl, rfl, rfl, h⟩

theorem DisplayFrame.scanRunning {s t : State} (h : DisplayFrame s t) :
    scanRunning t = scanRunning s := by
  rw [Machine.scanRunning, h.panel]
  rfl

/-! ## The operations that are frames -/

theorem arbitrate_displayFrame (s : State) : DisplayFrame s (arbitrate s) := by
  unfold arbitrate
  split
  · exact .refl s
  · split
    · rename_i r hr
      refine .of_arbiter fun x hx => ?_
      rcases hx with hx | ⟨p, hx⟩ <;> cases hx
      exact .inl hr
    · split
      · refine .of_arbiter fun x hx => ?_
        rcases hx with hx | ⟨p, hx⟩
        · exact .inl hx
        · cases hx
      · split
        · refine .of_arbiter fun x hx => ?_
          rcases hx with hx | ⟨p, hx⟩
          · exact .inl hx
          · cases hx
        · exact .refl s

theorem release_displayFrame (s : State) : DisplayFrame s (release s) :=
  .of_arbiter fun _ hr => hr.elim .inl fun ⟨_, h⟩ => (nomatch h)

/-- What is done after a release and before the arbiter serves. -/
theorem DisplayFrame.served {s t : State} (h : DisplayFrame (release s) t) :
    DisplayFrame s (arbitrate t) :=
  ((release_displayFrame s).trans h).trans (arbitrate_displayFrame t)

/-- A request of another client than the scanner. -/
theorem DisplayFrame.of_request (s : State) (port : Option PortAccess)
    (engine : Option EngineRequest) (owed : Bool) :
    DisplayFrame s (s.withArbiter { s.arbiter with
      portRequest := port, engineRequest := engine, engineOwed := owed }) :=
  .of_arbiter fun _ h => h

theorem raiseEngine_displayFrame (s : State) : DisplayFrame s (raiseEngine s) := by
  unfold raiseEngine
  split
  · split
    · exact .refl s
    · split
      · exact (DisplayFrame.of_request s _ _ _).trans (arbitrate_displayFrame _)
      · exact .refl s
  · exact .refl s

theorem complete_displayFrame (status : Status) (progress : Nat) (clipped held : Bool) (s : State) :
    DisplayFrame s (complete status progress clipped held s) := by
  obtain ⟨ring, engine, h⟩ := complete_frame status progress clipped held s
  rw [h]
  exact .of_blocks s _ _ _ engine ring _ _ _

theorem faultWith_displayFrame (status : Status) (s : State) :
    DisplayFrame s (faultWith status s) := by
  obtain ⟨ring, engine, h⟩ := faultWith_frame status s
  rw [h]
  exact .of_blocks s _ _ _ engine ring _ _ _

theorem withEngine_displayFrame (s : State) (g : Engine) : DisplayFrame s (s.withEngine g) :=
  .of_blocks s _ _ _ g _ _ _ _

theorem setCurrent_displayFrame (c : Current) (s : State) : DisplayFrame s (setCurrent c s) :=
  withEngine_displayFrame s _

theorem beginDrawing_displayFrame (s : State) : DisplayFrame s (beginDrawing s) := by
  unfold beginDrawing
  split
  · exact .refl s
  · exact (withEngine_displayFrame s _).trans (raiseEngine_displayFrame _)

theorem hold_displayFrame (reason : HoldReason) (s : State) : DisplayFrame s (hold reason s) := by
  unfold hold
  split
  · exact .refl s
  · exact withEngine_displayFrame s _

theorem holdRule_displayFrame (s : State) : DisplayFrame s (holdRule s) := by
  unfold holdRule
  split
  · exact .refl s
  · split <;> split
    · exact hold_displayFrame _ s
    · exact beginDrawing_displayFrame s
    · exact faultWith_displayFrame _ s
    · exact beginDrawing_displayFrame s

theorem handOver_displayFrame (s : State) : DisplayFrame s (handOver s) := by
  obtain ⟨ring, engine, pages, h⟩ := handOver_frame s
  rw [h]
  exact .of_blocks s _ _ _ engine ring pages _ _

theorem reevaluate_displayFrame (s : State) : DisplayFrame s (reevaluate s) := by
  unfold reevaluate
  split
  · exact holdRule_displayFrame s
  · exact handOver_displayFrame s
  · exact .refl s

theorem switchPage_displayFrame (s : State) : DisplayFrame s (switchPage s) := by
  rw [switchPage_eq]
  exact .of_blocks s _ _ _ _ _ _ _ _

theorem engineTakesScanEvent_displayFrame (counted stopped switched : Bool) (s : State) :
    DisplayFrame s (engineTakesScanEvent counted stopped switched s) := by
  unfold engineTakesScanEvent
  split
  · rename_i c _ _
    split
    · dsimp only
      generalize (if counted then c.progress + 1 else c.progress) = n
      split_ifs
      · exact (withEngine_displayFrame s _).trans (complete_displayFrame _ _ _ _ _)
      · exact (withEngine_displayFrame s _).trans (complete_displayFrame _ _ _ _ _)
      · exact withEngine_displayFrame s _
    · split_ifs
      · exact complete_displayFrame _ _ _ _ s
      · exact .refl s
    all_goals exact .refl s
  · split_ifs
    · exact reevaluate_displayFrame s
    · exact .refl s
  · exact .refl s

/-! ## The takes: only a ZONE reaches the display -/

theorem taken_displayFrame (e : Entry) (rest : List Entry) (s : State) :
    DisplayFrame s (taken e rest s) :=
  .of_blocks s rest _ _ _ _ _ _ _

/-- The zone table with the entry of a ZONE written: staged, and active too while the scan is stopped. -/
def Compositor.withZone (k : Compositor) (running : Bool) (e : Entry) : Compositor :=
  { k with
    stagedZones := k.stagedZones.set e.zoneIndex e.zoneEntry
    activeZones := if running then k.activeZones else k.activeZones.set e.zoneIndex e.zoneEntry }

/-- A take leaves the display as it stands, but for the zone that a ZONE whose checks pass writes. -/
theorem takeNext_displayFrame (s : State) :
    DisplayFrame s (takeNext s) ∨ ∃ e, e.checkZone = none ∧
      DisplayFrame (s.withCompositor (s.compositor.withZone (scanRunning s) e)) (takeNext s) := by
  cases hQueue : s.queue with
  | nil => exact .inl (by simpa only [takeNext, hQueue] using DisplayFrame.refl s)
  | cons e rest =>
    have hNext : takeNext s = takeAnd e.kind (disposal e.kind) s := by simp only [takeNext, hQueue]
    by_cases hIdle : s.engine.state = .idle
    · have hTaken := taken_displayFrame e rest s
      rw [hNext, takeAnd_eq hIdle hQueue]
      cases hCheck : e.check with
      | some f => exact .inl (hTaken.trans (faultWith_displayFrame f _))
      | none =>
        cases hKind : e.kind with
        | copy | stamp =>
          refine .inl (hTaken.trans ?_)
          simp only [disposal, disposeDrawing]
          split
          · exact beginDrawing_displayFrame _
          · exact holdRule_displayFrame _
        | present =>
          refine .inl (hTaken.trans ?_)
          simp only [disposal, disposePresent]
          split
          · exact hold_displayFrame _ _
          · exact handOver_displayFrame _
        | zone =>
          refine .inr ⟨e, by simpa only [Entry.check, hKind] using hCheck, ?_⟩
          exact (taken_displayFrame e rest _).trans (complete_displayFrame _ _ _ _ _)
        | wait =>
          refine .inl (hTaken.trans ?_)
          simp only [disposal, disposeWait]
          split
          · exact withEngine_displayFrame _ _
          · exact complete_displayFrame _ _ _ _ _
        | mark => exact .inl (hTaken.trans (complete_displayFrame _ _ _ _ _))
    · rw [hNext, takeAnd_of_not_idle hIdle]
      exact .inl (.refl s)

/-! ## The grant ends: a write of memory and the dots of a latched row reach the display -/

theorem endCopyRead_displayFrame (source destination : Nat) (dropped : Bool) (s : State) :
    DisplayFrame s (endCopyRead source destination dropped s) := by
  unfold endCopyRead
  dsimp only
  split_ifs
  · exact .served (.of_request _ _ _ _)
  · split
    · exact .served (.refl _)
    · exact .served ((withEngine_displayFrame _ _).trans (raiseEngine_displayFrame _))

theorem copyByteWritten_displayFrame (s : State) : DisplayFrame s (copyByteWritten s) := by
  unfold copyByteWritten
  split
  · exact .refl s
  · dsimp only
    split_ifs
    · exact (setCurrent_displayFrame _ s).trans (complete_displayFrame _ _ _ _ _)
    · exact (setCurrent_displayFrame _ s).trans (complete_displayFrame _ _ _ _ _)
    · exact (setCurrent_displayFrame _ s).trans (raiseEngine_displayFrame _)

theorem endStampRead_displayFrame (source : Nat) (dropped : Bool) (s : State) :
    DisplayFrame s (endStampRead source dropped s) := by
  unfold endStampRead
  dsimp only
  split_ifs
  · exact .served (raiseEngine_displayFrame _)
  · split
    · exact .served (.refl _)
    · exact .served ((withEngine_displayFrame _ _).trans (raiseEngine_displayFrame _))

theorem stampByteWritten_displayFrame (s : State) : DisplayFrame s (stampByteWritten s) := by
  unfold stampByteWritten
  split
  · exact .refl s
  · dsimp only
    split_ifs
    · exact (setCurrent_displayFrame _ s).trans (raiseEngine_displayFrame _)
    · exact (setCurrent_displayFrame _ s).trans (complete_displayFrame _ _ _ _ _)
    · exact (setCurrent_displayFrame _ s).trans (complete_displayFrame _ _ _ _ _)
    · exact (setCurrent_displayFrame _ s).trans (raiseEngine_displayFrame _)

/-- What is done after a byte has been written and the grant released. -/
theorem DisplayFrame.written {s t : State} {a : Nat} {v : Byte}
    (h : DisplayFrame (writeByte a v (release s)) t) :
    DisplayFrame (writeByte a v s) (arbitrate t) :=
  DisplayFrame.served (s := writeByte a v s) h

theorem endCopyWrite_displayFrame (a : Nat) (v : Byte) (dropped : Bool) (s : State) :
    DisplayFrame (writeByte a v s) (endCopyWrite a v dropped s) := by
  refine .written (t := if dropped then _ else _) ?_
  split
  · exact raiseEngine_displayFrame _
  · exact copyByteWritten_displayFrame _

theorem endStampModify_displayFrame (a : Nat) (mask bits : Byte) (operator : StampOperator)
    (dropped : Bool) (s : State) :
    DisplayFrame (writeByte a (operator.combine (byteAt s a) mask bits) s)
      (endStampModify a mask bits operator dropped s) := by
  refine .written (t := if dropped then _ else _) ?_
  split
  · exact raiseEngine_displayFrame _
  · exact stampByteWritten_displayFrame _

/-- The end of a grant leaves the display as it stands, but for a byte written or the dots of a row that
is not to be discarded. -/
theorem endGrant_displayFrame (s : State) :
    DisplayFrame s (endGrant s) ∨ (∃ a v, DisplayFrame (writeByte a v s) (endGrant s)) ∨
      ∃ r p dots, s.arbiter.grant = some (.row r p) ∧ r.discarded = false ∧
        DisplayFrame (s.withCompositor { s.compositor with rowDots := dots }) (endGrant s) := by
  unfold endGrant
  split
  · exact .inl (arbitrate_displayFrame s)
  · rename_i r p hGrant
    cases hDiscarded : r.discarded with
    | true =>
      refine .inl ?_
      rw [endRowRead, if_pos hDiscarded]
      exact .served (.refl _)
    | false =>
      refine .inr (.inr ⟨r, p, some (composeRow s r.row (rowBytes s p r.row)), hGrant, hDiscarded, ?_⟩)
      rw [endRowRead, if_neg (by simp [hDiscarded])]
      exact DisplayFrame.served (s := s.withCompositor _) (.refl _)
  · rename_i access _
    cases access with
    | read a =>
      exact .inl (.served (.of_blocks _ _ _ _ _ _ _ { s.port with readValue := some (byteAt s a) } _))
    | write a v => exact .inr (.inl ⟨a, v, .written (.refl _)⟩)
  · rename_i e _
    unfold endEngineAccess
    split
    · exact .inl (endCopyRead_displayFrame _ _ _ s)
    · exact .inr (.inl ⟨_, _, endCopyWrite_displayFrame _ _ _ s⟩)
    · exact .inl (endStampRead_displayFrame _ _ s)
    · exact .inr (.inl ⟨_, _, endStampModify_displayFrame _ _ _ _ _ s⟩)

end Sys2Proof.Machine

namespace Sys2Proof.Machine

/-! # What a command can do to memory and the display

Every way in which memory, the display blocks and the row reads can change, as one relation. A command is
a chain of such moves, and at an event of the reset inputs one reset after them; an invariant of these
blocks is kept by every command because each move keeps it. -/

/-- The scanner at a row whose latch it has requested, which the arbiter has still to serve. -/
def atRow (polarity : Polarity) (row : Nat) (s : State) : State :=
  { s with
    scanner := { s.scanner with polarity := polarity, row := row, tick := 0 }
    compositor := { s.compositor with rowDots := none }
    arbiter := { s.arbiter with rowRequest := some ⟨row, false⟩ } }

theorem startRow_eq_arbitrate (polarity : Polarity) (row : Nat) (s : State) :
    startRow polarity row s = arbitrate (atRow polarity row s) := rfl

/-- The scan stopped at once with the panel discharging (R123, R152). -/
def scanStopped (s : State) : State :=
  { s with
    scanner := { s.scanner with polarity := .positive, row := 0, tick := 0 }
    compositor := { s.compositor with rowDots := none }
    panel := { s.panel with
      state := .discharging
      pending := .none
      showAfterCharge := false
      chargeTimer := none
      dischargeTimer := some 1024
      contrastActual := 0#5 }
    irq := { s.irq with panel := true }
    arbiter := s.arbiter.discardRow }

theorem stopDrive_enterDischarging (s : State) : stopDrive (enterDischarging s) = scanStopped s := by
  rw [stopDrive_eq, enterDischarging_eq]
  rfl

/-- The frame counted and the staged settings active, as a pair boundary leaves them (R122, R128, R137). -/
def activated (s : State) : State :=
  { s with
    scanner := { s.scanner with
      frameCount := s.scanner.frameCount + 1#16, active := s.scanner.staged }
    compositor := { s.compositor with
      activeZones := s.compositor.stagedZones
      blinkA := s.compositor.blinkA.atPairBoundary
      blinkB := s.compositor.blinkB.atPairBoundary } }

/-- One change of memory, of a display block or of the row reads. -/
inductive DisplayMove : State → State → Prop
  | frame {s t : State} (h : DisplayFrame s t) : DisplayMove s t
  | byteWritten (s : State) (a : Nat) (v : Byte) : DisplayMove s (writeByte a v s)
  | rowLatched (s : State) (r : RowRequest) (p : Fin 4) (dots : Option (BitVec 64))
      (hGrant : s.arbiter.grant = some (.row r p)) (hKept : r.discarded = false) :
      DisplayMove s (s.withCompositor { s.compositor with rowDots := dots })
  | zoneWritten (s : State) (e : Entry) (h : e.checkZone = none) :
      DisplayMove s (s.withCompositor (s.compositor.withZone (scanRunning s) e))
  | zonesReset (s : State) : DisplayMove s
      (s.withCompositor { s.compositor with stagedZones := s.compositor.activeZones })
  | scanConfigured (s : State) (v : Byte) : DisplayMove s (setScanConfig v s)
  | blinkSet (s : State) (group : BlinkGroup) (v : Byte) : DisplayMove s (setBlink group v s)
  | supplySwitched (s : State) (v : Byte) : DisplayMove s (setSupplyEnable v s)
  | supplySampled (s : State) (millivolts : Nat) (h : s.supply.enabled = true) :
      DisplayMove s (recordSample millivolts s)
  | panelSet (s : State) (chargeTime : BitVec 2) (target : BitVec 5) : DisplayMove s
      (s.withPanel { s.panel with chargeTime := chargeTime, contrastTarget := target })
  | showNoted (s : State) (x : Bool) (h : s.panel.state = .charging) :
      DisplayMove s (s.withPanel { s.panel with showAfterCharge := x })
  | requestNoted (s : State) (x : PanelPending) (hShow : x = .show → s.panel.state = .blanked)
      (hBlank : x = .blank → s.panel.state = .showing) :
      DisplayMove s (s.withPanel { s.panel with pending := x })
  | charging (s : State) (h : s.panel.state = .off) (n : Nat) : DisplayMove s
      (s.withPanel { s.panel with
        state := .charging, showAfterCharge := false, chargeTimer := some n })
  | stopping (s : State) (h : s.panel.state = .blanked ∨ s.panel.state = .showing) :
      DisplayMove s (s.withPanel { s.panel with state := .stopping, pending := .none })
  | off (s : State) (h : s.panel.state = .discharging) :
      DisplayMove s (s.withPanel { s.panel with state := .off, dischargeTimer := none })
  | chargeCut (s : State) (h : s.panel.state = .charging) : DisplayMove s (enterDischarging s)
  | scanCut (s : State) (h : scanRunning s = true) : DisplayMove s (scanStopped s)
  | scanStarts (s : State) (h : s.panel.state = .charging) : DisplayMove s
      (atRow .positive 0 (s.withPanel { s.panel with
        state := .blanked
        chargeTimer := none
        showAfterCharge := false
        pending := if s.panel.showAfterCharge then .show else .none }))
  | rowStarts (s : State) (polarity : Polarity) (row : Nat) (hScan : scanRunning s = true)
      (hRow : row < activeCommons s) : DisplayMove s (atRow polarity row s)
  | frameCounted (s : State) : DisplayMove s (countFrame s)
  | pairStops (s : State) (h : s.panel.state = .stopping) :
      DisplayMove s (scanStopped (activated s))
  | pairPassed (s t : State) (h : s.panel.state = .blanked ∨ s.panel.state = .showing)
      (hFrame : DisplayFrame (panelAtPairBoundary (activated s)) t) :
      DisplayMove s (atRow .positive 0 t)

/-- A chain of moves. -/
def Moves : State → State → Prop := Relation.ReflTransGen DisplayMove

theorem Moves.refl (s : State) : Moves s s := Relation.ReflTransGen.refl

theorem Moves.trans {s t u : State} (h : Moves s t) (h' : Moves t u) : Moves s u :=
  Relation.ReflTransGen.trans h h'

theorem DisplayMove.moves {s t : State} (h : DisplayMove s t) : Moves s t := .single h

theorem DisplayFrame.moves {s t : State} (h : DisplayFrame s t) : Moves s t :=
  DisplayMove.moves (.frame h)

/-- A move, and then nothing more that shows. -/
theorem Moves.of_move_frame {s t u : State} (h : DisplayMove s t) (h' : DisplayFrame t u) :
    Moves s u :=
  h.moves.trans h'.moves

/-- What every move keeps, a chain of moves keeps. -/
theorem Moves.keeps {P : State → Prop} (hMove : ∀ s t, DisplayMove s t → P s → P t) {s t : State}
    (h : Moves s t) (hs : P s) : P t := by
  induction h with
  | refl => exact hs
  | tail _ hm ih => exact hMove _ _ hm ih

/-! ## The takes and the grant ends -/

theorem takeNext_moves (s : State) : Moves s (takeNext s) := by
  rcases takeNext_displayFrame s with h | ⟨e, hCheck, h⟩
  · exact h.moves
  · exact .of_move_frame (.zoneWritten s e hCheck) h

theorem endGrant_moves (s : State) : Moves s (endGrant s) := by
  rcases endGrant_displayFrame s with h | ⟨a, v, h⟩ | ⟨r, p, dots, hGrant, hKept, h⟩
  · exact h.moves
  · exact .of_move_frame (.byteWritten s a v) h
  · exact .of_move_frame (.rowLatched s r p dots hGrant hKept) h

theorem moves_keptByPart (s : State) : KeptByPart (Moves s) :=
  ⟨fun t h => h.trans (takeNext_moves t), fun t h => h.trans (endGrant_moves t)⟩

theorem beforePortGrant_moves (s : State) : Moves s (beforePortGrant s) :=
  (moves_keptByPart s).beforePortGrant s (.refl s)

/-! ## The accesses of the host -/

theorem refuse_displayFrame (s : State) : DisplayFrame s (refuse s) := .of_blocks s _ _ _ _ _ _ _ _

theorem setEngine_displayFrame (s : State) (ring : List Record) (g : Engine) :
    DisplayFrame s ((s.withRing ring).withEngine g) :=
  .of_blocks s _ _ _ g ring _ _ _

theorem pauseEngine_displayFrame (s : State) : DisplayFrame s (pauseEngine s) := by
  unfold pauseEngine
  split
  · exact refuse_displayFrame s
  · split <;> first | exact refuse_displayFrame s | exact withEngine_displayFrame s _

theorem resumeEngine_displayFrame (s : State) : DisplayFrame s (resumeEngine s) := by
  unfold resumeEngine
  split
  · unfold leavePaused
    split
    · exact withEngine_displayFrame s _
    · split
      · exact holdRule_displayFrame s
      · split
        · exact hold_displayFrame _ s
        · exact handOver_displayFrame s
      · exact .refl s
  all_goals
    split
    · exact withEngine_displayFrame s _
    · exact refuse_displayFrame s

theorem abortRunning_displayFrame (c : Current) (s : State) :
    DisplayFrame s (abortRunning c s) := by
  unfold abortRunning
  split
  · exact refuse_displayFrame s
  · split
    · exact withEngine_displayFrame s _
    · exact (DisplayFrame.of_request s _ _ _).trans (complete_displayFrame _ _ _ _ _)

theorem abortCommand_displayFrame (s : State) : DisplayFrame s (abortCommand s) := by
  unfold abortCommand
  split
  · exact abortRunning_displayFrame _ s
  · exact complete_displayFrame _ _ _ _ s
  · split <;> first | exact complete_displayFrame _ _ _ _ s | exact refuse_displayFrame s
  · exact (withEngine_displayFrame s _).trans (complete_displayFrame _ _ _ _ _)
  · exact refuse_displayFrame s

theorem continueEngine_displayFrame (s : State) : DisplayFrame s (continueEngine s) := by
  unfold continueEngine
  split
  · split <;> exact withEngine_displayFrame s _
  all_goals exact refuse_displayFrame s

theorem popRecord_displayFrame (s : State) : DisplayFrame s (popRecord s) := by
  unfold popRecord
  split
  · exact refuse_displayFrame s
  · split
    · exact setEngine_displayFrame s _ _
    · exact setEngine_displayFrame s _ _
    · exact .of_blocks s _ _ _ _ _ _ _ _

/-- An engine reset marks accesses dropped and withdraws others, and leaves the row reads. -/
theorem dropEngine_holdsRow {b : Arbiter} {r : RowRequest} (h : b.dropEngine.holdsRow r) :
    b.holdsRow r := by
  rcases h with h | ⟨p, h⟩
  · exact .inl h
  · refine .inr ⟨p, ?_⟩
    cases hg : b.grant with
    | none => simp [Arbiter.dropEngine, hg] at h
    | some g => cases g <;> simp_all [Arbiter.dropEngine]

theorem resetEngine_displayFrame (s : State) :
    DisplayFrame (s.withCompositor { s.compositor with stagedZones := s.compositor.activeZones })
      (resetEngine s) :=
  ⟨rfl, rfl, rfl, rfl, rfl, rfl, rfl, fun _ h => dropEngine_holdsRow h⟩

theorem engineRequest_moves (v : Byte) (s : State) : Moves s (engineRequest v s) := by
  unfold engineRequest
  split
  · exact (pauseEngine_displayFrame s).moves
  · exact (resumeEngine_displayFrame s).moves
  · exact (abortCommand_displayFrame s).moves
  · exact (continueEngine_displayFrame s).moves
  · exact (DisplayFrame.of_blocks s [] _ _ _ _ _ _ _).moves
  · exact .of_move_frame (.zonesReset s) (resetEngine_displayFrame s)
  · exact (popRecord_displayFrame s).moves
  · exact (refuse_displayFrame s).moves

theorem latchPanel_displayFrame (s : State) : DisplayFrame s (latchPanel s) :=
  .of_blocks s _ _ _ _ _ _ _ _

theorem panelRequest_moves (v : Byte) (s : State) : Moves s (panelRequest v s) := by
  unfold panelRequest
  split
  · unfold powerOnPanel
    split
    · rename_i h
      exact .of_move_frame (.charging s h.1 _) (latchPanel_displayFrame _)
    · exact (refuse_displayFrame s).moves
  · unfold requestShow
    split <;> rename_i hState
    · exact (DisplayMove.showNoted s true hState).moves
    · exact (DisplayMove.requestNoted s .show (fun _ => hState) (fun h => (nomatch h))).moves
    · exact (DisplayMove.requestNoted s .none (fun h => (nomatch h)) (fun h => (nomatch h))).moves
    all_goals exact (refuse_displayFrame s).moves
  · unfold requestBlank
    split <;> rename_i hState
    · exact (DisplayMove.showNoted s false hState).moves
    · exact (DisplayMove.requestNoted s .none (fun h => (nomatch h)) (fun h => (nomatch h))).moves
    · exact (DisplayMove.requestNoted s .blank (fun h => (nomatch h)) (fun _ => hState)).moves
    all_goals exact (refuse_displayFrame s).moves
  · unfold powerOffPanel
    split <;> rename_i hState
    · exact (DisplayMove.chargeCut s hState).moves
    · exact .of_move_frame (.stopping s (.inl hState)) (latchPanel_displayFrame _)
    · exact .of_move_frame (.stopping s (.inr hState)) (latchPanel_displayFrame _)
    all_goals exact .refl s
  · exact (refuse_displayFrame s).moves

theorem requestPort_displayFrame (access : PortAccess) (s : State) :
    DisplayFrame s (requestPort access s) :=
  (DisplayFrame.of_request s _ _ _).trans (arbitrate_displayFrame _)

theorem withPort_displayFrame (s : State) (x : Port) : DisplayFrame s (s.withPort x) :=
  .of_blocks s _ _ _ _ _ _ x _

theorem readPortData_moves (s : State) : Moves s (readPortData s) := by
  unfold readPortData
  dsimp only
  split
  · exact (beforePortGrant_moves s).trans (((withPort_displayFrame _ _).trans
      (withPort_displayFrame _ _)).trans (requestPort_displayFrame _ _)).moves
  · exact (DisplayFrame.of_blocks s _ _ _ _ _ _ _ _).moves

theorem writePortData_moves (v : Byte) (s : State) : Moves s (writePortData v s) := by
  unfold writePortData
  dsimp only
  split
  · exact (beforePortGrant_moves s).trans
      ((withPort_displayFrame _ _).trans (requestPort_displayFrame _ _)).moves
  · exact (DisplayFrame.of_blocks s _ _ _ _ _ _ _ _).moves

theorem pushEntry_displayFrame (code : Byte) (s : State) : DisplayFrame s (pushEntry code s) := by
  unfold pushEntry
  split
  · exact .of_blocks s _ _ _ _ _ _ _ _
  · split <;> exact .of_blocks s _ _ _ _ _ _ _ _

theorem writeRegister_moves (offset : BitVec 6) (v : Byte) (s : State) :
    Moves s (writeRegister offset v s) := by
  have hBlocks : ∀ (staging : Staging) (threshold : Byte) (port : Port) (irq : Irq), Moves s { s with
      staging := staging, spaceThreshold := threshold, port := port, irq := irq } := fun _ _ _ _ =>
    (DisplayFrame.of_blocks s _ _ _ _ _ _ _ _).moves
  unfold writeRegister
  split
  · exact engineRequest_moves v s
  · unfold setSpaceThreshold
    split <;> exact hBlocks _ _ _ _
  · exact (pushEntry_displayFrame v s).moves
  iterate 10 exact hBlocks _ _ _ _
  · exact (DisplayMove.scanConfigured s v).moves
  · exact (DisplayMove.blinkSet s .a v).moves
  · exact (DisplayMove.blinkSet s .b v).moves
  · exact panelRequest_moves v s
  · exact (DisplayMove.panelSet s _ _).moves
  · exact (DisplayMove.panelSet s _ _).moves
  · exact (DisplayMove.supplySwitched s v).moves
  · exact hBlocks _ _ _ _
  · exact hBlocks _ _ _ _
  · exact writePortData_moves v s
  iterate 6 exact hBlocks _ _ _ _
  · exact .refl s

/-! ## The events of the scan and of the timers -/

theorem ScanConfig.commons_pos (c : ScanConfig) : 0 < c.commons := by
  unfold ScanConfig.commons
  omega

theorem rowEnds_moves (s : State) : Moves s (rowEnds s) := by
  unfold rowEnds
  split
  · rename_i h
    exact .of_move_frame (.rowStarts s _ _ h.1 h.2) (arbitrate_displayFrame _)
  · exact .refl s

theorem positiveFrameEnds_moves (s : State) : Moves s (positiveFrameEnds s) := by
  unfold positiveFrameEnds
  split
  · rename_i h
    refine (DisplayMove.frameCounted s).moves.trans
      (.of_move_frame (.rowStarts _ _ _ h.1 ?_) (arbitrate_displayFrame _))
    exact s.scanner.active.commons_pos
  · exact .refl s

/-- The panel's part of a boundary leaves everything but the panel and its flag. -/
theorem panelAtPairBoundary_eq (s : State) : ∃ irq, panelAtPairBoundary s = { s with
    irq := irq
    panel := { s.panel with
      state := (match s.panel.state, s.panel.pending with
        | .blanked, .show => .showing
        | .showing, .blank => .blanked
        | x, _ => x)
      pending := .none
      contrastActual := stepContrast s.panel.contrastActual s.panel.contrastTarget } } := by
  unfold panelAtPairBoundary
  cases hState : s.panel.state <;> cases hPending : s.panel.pending <;>
    exact ⟨_, by simp [enterPanel, latchPanel, State.withPanel, State.withIrq, hState]; try rfl⟩

@[simp] theorem panelAtPairBoundary_memory (s : State) :
    (panelAtPairBoundary s).memory = s.memory := by
  obtain ⟨_, h⟩ := panelAtPairBoundary_eq s
  rw [h]

@[simp] theorem panelAtPairBoundary_supply (s : State) :
    (panelAtPairBoundary s).supply = s.supply := by
  obtain ⟨_, h⟩ := panelAtPairBoundary_eq s
  rw [h]

@[simp] theorem panelAtPairBoundary_resetInputs (s : State) :
    (panelAtPairBoundary s).resetInputs = s.resetInputs := by
  obtain ⟨_, h⟩ := panelAtPairBoundary_eq s
  rw [h]

@[simp] theorem panelAtPairBoundary_pending (s : State) :
    (panelAtPairBoundary s).pending = s.pending := by
  obtain ⟨_, h⟩ := panelAtPairBoundary_eq s
  rw [h]

theorem panelAtPairBoundary_panel (s : State) : (panelAtPairBoundary s).panel = { s.panel with
    state := (match s.panel.state, s.panel.pending with
      | .blanked, .show => .showing
      | .showing, .blank => .blanked
      | x, _ => x)
    pending := .none
    contrastActual := stepContrast s.panel.contrastActual s.panel.contrastTarget } := by
  obtain ⟨_, h⟩ := panelAtPairBoundary_eq s
  rw [h]

theorem panelAtPairBoundary_displayFrame {s t : State} (h : DisplayFrame s t) :
    DisplayFrame (panelAtPairBoundary s) (panelAtPairBoundary t) := by
  obtain ⟨_, hs⟩ := panelAtPairBoundary_eq s
  obtain ⟨_, ht⟩ := panelAtPairBoundary_eq t
  rw [hs, ht]
  refine ⟨h.memory, h.scanner, h.compositor, ?_, h.supply, h.resetInputs, h.pending, h.rows⟩
  simp only [h.panel]

/-- The state in which the panel and the engine take their parts of a pair boundary. -/
theorem boundary_eq (s : State) : switchPage (activateSettings (latchPair (countFrame s))) =
    { activated s with
      irq := { s.irq with pair := true }
      pages := match s.pages.pending with
        | some p => ⟨p, none⟩
        | none => s.pages } := by
  rw [switchPage_eq]
  rfl

theorem boundary_displayFrame (s : State) :
    DisplayFrame (activated s) (switchPage (activateSettings (latchPair (countFrame s)))) := by
  rw [boundary_eq]
  exact .of_blocks (activated s) _ _ _ _ _ _ _ _

theorem takePairBoundary_moves {s : State} (h : scanRunning s = true) :
    Moves s (takePairBoundary s) := by
  unfold takePairBoundary
  dsimp only
  split
  · rename_i hStopping
    refine .of_move_frame (.pairStops s hStopping) (DisplayFrame.trans ?_
      (engineTakesScanEvent_displayFrame _ _ _ _))
    rw [stopDrive_enterDischarging, boundary_eq]
    exact .of_blocks (scanStopped (activated s)) _ _ _ _ _ _ _ _
  · rename_i hStopping
    have hState : s.panel.state = .blanked ∨ s.panel.state = .showing := by
      unfold scanRunning at h
      cases hs : s.panel.state <;> simp_all [PanelState.scans]
    exact .of_move_frame (.pairPassed s _ hState
      ((panelAtPairBoundary_displayFrame (boundary_displayFrame s)).trans
        (engineTakesScanEvent_displayFrame _ _ _ _))) (arbitrate_displayFrame _)

theorem negativeFrameEnds_moves (s : State) : Moves s (negativeFrameEnds s) := by
  unfold negativeFrameEnds
  split
  · rename_i h
    exact takePairBoundary_moves h.1
  · exact .refl s

theorem chargeTimerEnds_moves (s : State) : Moves s (chargeTimerEnds s) := by
  unfold chargeTimerEnds
  split
  · rename_i h
    have hFrame : DisplayFrame (atRow .positive 0 (s.withPanel { s.panel with
        state := .blanked
        chargeTimer := none
        showAfterCharge := false
        pending := if s.panel.showAfterCharge then .show else .none })) (endCharging s) :=
      (latchPanel_displayFrame _).trans (arbitrate_displayFrame _)
    exact .of_move_frame (.scanStarts s h) hFrame
  · exact .refl s

theorem dischargeTimerEnds_moves (s : State) : Moves s (dischargeTimerEnds s) := by
  unfold dischargeTimerEnds
  split
  · rename_i h
    exact .of_move_frame (.off s h) (latchPanel_displayFrame _)
  · exact .refl s

theorem emergencyDischarge_moves {s : State} (h : s.panel.state.powered = true) :
    Moves s (emergencyDischarge s) := by
  unfold emergencyDischarge
  split
  · rename_i hScan
    rw [stopDrive_enterDischarging]
    exact .of_move_frame (.scanCut s hScan)
      ((switchPage_displayFrame _).trans (engineTakesScanEvent_displayFrame _ _ _ _))
  · rename_i hScan
    refine (DisplayMove.chargeCut s ?_).moves
    unfold scanRunning at hScan
    cases hs : s.panel.state <;> simp_all [PanelState.scans, PanelState.powered]

theorem takeSample_moves (millivolts : Nat) {s : State} (h : s.supply.enabled = true) :
    Moves s (takeSample millivolts s) := by
  have hSampled := (DisplayMove.supplySampled s millivolts h).moves
  unfold takeSample
  dsimp only
  split_ifs with hLow hPowered
  · exact (hSampled.trans (DisplayFrame.of_blocks (recordSample millivolts s)
      _ _ _ _ _ _ _ _).moves).trans (emergencyDischarge_moves hPowered)
  · exact hSampled.trans (DisplayFrame.of_blocks (recordSample millivolts s) _ _ _ _ _ _ _ _).moves
  · exact hSampled

theorem sampleTimerEnds_moves {millivolts : Nat} (h : 2000 ≤ millivolts) (s : State) :
    Moves s (sampleTimerEnds millivolts s) := by
  rw [sampleTimerEnds, if_neg (Nat.not_lt.mpr h)]
  split
  · rename_i hEnabled
    exact takeSample_moves millivolts hEnabled.1
  · exact .refl s

/-! ## Every command -/

/-- One event of the reset inputs. -/
inductive ResetMove : State → State → Prop
  | fall (s : State) : ResetMove s (takeDeviceReset s)
  | rise (s : State) : ResetMove s (releaseReset s)
  | power (s : State) : ResetMove s (takePowerOnReset s)
  | supply (s : State) : ResetMove s (takeSupplyRise s)
  | release (s : State) : ResetMove s (takePowerOnRelease s)

/-- A command that is no event of the reset inputs, nor a sample of a supply below 2.0 V, which is one. -/
def Ordinary (c : Instr) : Prop :=
  isResetEvent c = false ∧ ∀ millivolts, c = .sample millivolts → 2000 ≤ millivolts

/-- Every command is a chain of moves, and one that is not ordinary a reset after them. -/
theorem exec_moves (c : Instr) (s : State) : ∃ t, exec c s = .next t ∧
    (Moves s t ∨ (¬ Ordinary c ∧ ∃ u, Moves s u ∧ ResetMove u t)) := by
  refine exec_leads (P := Moves s)
    (Q := fun t => Moves s t ∨ (¬ Ordinary c ∧ ∃ u, Moves s u ∧ ResetMove u t))
    (Met := fun _ => True) (Still := fun _ => True) (moves_keptByPart s) (fun _ h => .inl h)
    (fun _ _ _ => trivial) (fun _ _ => trivial)
    (fun offset v t h _ => .inl (h.trans (writeRegister_moves offset v t)))
    (fun t h _ => .inl (h.trans (readPortData_moves t)))
    (fun t h _ => .inl (h.trans (withPort_displayFrame t _).moves)) c ?_ ?_ s (.refl s)
  · intro event hRole t h _
    refine timed_cases (motive := fun c f => Moves s (f t) ∨ (¬ Ordinary c ∧ ∃ u, Moves s u ∧
      ResetMove u (f t))) (.inl (h.trans (rowEnds_moves t)))
      (.inl (h.trans (positiveFrameEnds_moves t))) (.inl (h.trans (negativeFrameEnds_moves t)))
      (.inl (h.trans (chargeTimerEnds_moves t))) (.inl (h.trans (dischargeTimerEnds_moves t)))
      (fun millivolts => ?_) hRole
    by_cases hLow : millivolts < 2000
    · refine .inr ⟨fun hc => absurd (hc.2 _ rfl) (Nat.not_le.mpr hLow), t, h, ?_⟩
      rw [sampleTimerEnds, if_pos hLow]
      exact .power t
    · exact .inl (h.trans (sampleTimerEnds_moves (Nat.not_lt.mp hLow) t))
  · intro event hRole t h
    have hReset := isResetEvent_of_role hRole
    refine .inr ⟨fun hc => Bool.noConfusion (hReset.symm.trans hc.1), t, h, ?_⟩
    exact reset_cases (motive := fun f => ResetMove t (f t)) (.fall t) (.rise t) (.power t)
      (.supply t) (.release t) hRole

/-- An ordinary command is a chain of moves. -/
theorem exec_moves_of_ordinary {c : Instr} (hc : Ordinary c) {s t : State}
    (h : exec c s = .next t) : Moves s t := by
  obtain ⟨u, hu, hMoves | ⟨hNot, -⟩⟩ := exec_moves c s
  · rw [hu] at h
    cases h
    exact hMoves
  · exact absurd hc hNot

/-- What every move and every reset keeps, every command keeps. -/
theorem exec_keeps {P : State → Prop} (hMove : ∀ s t, DisplayMove s t → P s → P t)
    (hReset : ∀ s t, ResetMove s t → P s → P t) {c : Instr} {s t : State} (h : exec c s = .next t)
    (hs : P s) : P t := by
  obtain ⟨u, hu, hMoves⟩ := exec_moves c s
  rw [hu] at h
  cases h
  rcases hMoves with hMoves | ⟨-, v, hMoves, hLast⟩
  · exact hMoves.keeps hMove hs
  · exact hReset v _ hLast (hMoves.keeps hMove hs)

end Sys2Proof.Machine

namespace Sys2Proof.Machine

/-! # The machine as a whole -/

/-! ## Every command answers -/

theorem DisplayMove.pending {s t : State} (h : DisplayMove s t) : t.pending = s.pending := by
  cases h with
  | frame h => exact h.pending
  | blinkSet group v => cases group <;> rfl
  | supplySwitched v => unfold setSupplyEnable; split <;> rfl
  | pairPassed t _ h => exact h.pending.trans (panelAtPairBoundary_pending _)
  | _ => rfl

theorem ResetMove.pending {s t : State} (h : ResetMove s t) : t.pending = s.pending := by
  cases h with
  | rise => unfold releaseReset; split <;> rfl
  | supply => unfold takeSupplyRise; split <;> rfl
  | release => unfold takePowerOnRelease; split <;> rfl
  | _ => rfl

/-- Settles O1: the step is the dispatch of the front command. -/
theorem stepRunsTheFrontCommand : Obligations.StepRunsTheFrontCommand := by
  intro c s
  rfl

/-- Settles O3: a command is a chain of moves and at most one reset, none of which touches the commands
behind it. -/
theorem everyCommandAnswersANextState : Obligations.EveryCommandAnswersANextState := by
  intro c s
  refine ⟨_, exec_eq_role c s, ?_⟩
  exact exec_keeps (P := fun t => t.pending = s.pending) (fun _ _ h hs => h.pending.trans hs)
    (fun _ _ h hs => h.pending.trans hs) (exec_eq_role c s) rfl

/-! ## The part in reset -/

/-- In reset an engine event has nothing to take, no grant is in progress and no timer runs (R176). -/
theorem role_run_of_inReset {c : Instr} {s : State} (hInv : ResetInv s) (hIn : inReset s = true)
    (hc : Ordinary c) : (role c).run s = s := by
  obtain ⟨hArbiter, hQueue, hEngine, -, -, hPanel, -⟩ := hInv hIn
  have hSettled : Settled s := by
    unfold Settled
    rw [hEngine]
    rfl
  have hGrant : s.arbiter.grant = none := by rw [hArbiter]; rfl
  have hOff : s.panel.state = .off := by rw [hPanel]; rfl
  have hScan : scanRunning s = false := by rw [scanRunning, hOff]; rfl
  cases hRole : role c with
  | take k => exact takeAnd_of_empty hQueue k _
  | write | portRead | frameRead => exact onBus_of_inReset hIn _
  | grantEnd ends =>
    rw [Role.run, onEvent_of_settled hSettled]
    rcases grantEnd_cases hRole s with h | h
    · rw [h]
      simp [endGrant, arbitrate, hArbiter, Arbiter.reset]
    · exact h
  | timed event =>
    rw [Role.run, onEvent_of_settled hSettled]
    refine timed_cases (motive := fun c f => Ordinary c → f s = s) ?_ ?_ ?_ ?_ ?_ ?_ hRole hc
    · simp [rowEnds, hScan]
    · simp [positiveFrameEnds, hScan]
    · simp [negativeFrameEnds, hScan]
    · simp [chargeTimerEnds, hOff]
    · simp [dischargeTimerEnds, hOff]
    · intro millivolts hc
      simp [sampleTimerEnds, Nat.not_lt.mpr (hc.2 millivolts rfl), hIn]
  | reset event =>
    exact Bool.noConfusion ((isResetEvent_of_role hRole).symm.trans hc.1)

/-- Settles O4: no role of an ordinary command finds anything to do in a part in reset. -/
theorem aPartInResetStandsStill : Obligations.APartInResetStandsStill := by
  intro c s hInv hIn hWell hReset
  rw [exec_eq_role, role_run_of_inReset hInv hIn ⟨hReset, ?_⟩]
  rintro millivolts rfl
  simpa [Instr.wellFormed] using hWell

/-! ## The empty queue -/

/-- The events of the scan that come due at a tick (R121). -/
def scanDue (s : State) : List Instr :=
  if scanRunning s = true ∧ 32 * s.scanner.active.divider ≤ s.scanner.tick + 1 then
    if s.scanner.row + 1 < activeCommons s then [.rowChange]
    else if s.scanner.polarity = .positive then [.frameBoundary] else [.pairBoundary]
  else []

/-- The expiry of a panel timer that comes due at a tick (R149, R152). -/
def panelDue (s : State) : List Instr :=
  match s.panel.chargeTimer, s.panel.dischargeTimer with
  | some n, _ => if n ≤ 1 then [.chargeExpiry] else []
  | none, some n => if n ≤ 1 then [.dischargeExpiry] else []
  | none, none => []

/-- The sample that comes due at a tick (R157). -/
def sampleDue (s : State) : List Instr :=
  if s.supply.enabled = true ∧ 256 ≤ s.supply.timer + 1 then [.sample s.supply.millivolts] else []

theorem tickScan_eq (s : State) : tickScan s =
    (s.withScanner { s.scanner with
      tick := if scanRunning s = true ∧ s.scanner.tick + 1 < 32 * s.scanner.active.divider then
        s.scanner.tick + 1 else s.scanner.tick }, scanDue s) := by
  unfold tickScan scanDue ScanConfig.period
  by_cases hRun : scanRunning s = true
  · by_cases hTick : s.scanner.tick + 1 < 32 * s.scanner.active.divider
    · simp [hRun, hTick]
    · simp only [hRun, hTick, Nat.not_lt.mp hTick, and_true, and_false, if_true, if_false]
      split_ifs <;> rfl
  · simp only [hRun]
    rfl

theorem tickPanel_eq (s : State) : tickPanel s =
    (s.withPanel { s.panel with
      chargeTimer := s.panel.chargeTimer.map (fun n => n - 1)
      dischargeTimer := if s.panel.chargeTimer.isSome then s.panel.dischargeTimer
        else s.panel.dischargeTimer.map (fun n => n - 1) }, panelDue s) := by
  unfold tickPanel panelDue countDown
  rcases hPanel : s.panel with ⟨state, pending, show', charge, discharge, time, target, actual⟩
  cases charge with
  | some n => simp
  | none =>
    cases discharge with
    | some n => simp
    | none => exact congrArg (·, []) (congrArg s.withPanel hPanel)

theorem tickSupply_eq (s : State) : tickSupply s =
    (s.withSupply { s.supply with
      timer := if s.supply.enabled = true ∧ s.supply.timer + 1 < 256 then s.supply.timer + 1
        else s.supply.timer }, sampleDue s) := by
  unfold tickSupply sampleDue
  rcases hSupply : s.supply with ⟨enabled, state, history, timer, millivolts⟩
  cases enabled with
  | false => exact congrArg (·, []) (congrArg s.withSupply hSupply)
  | true =>
    by_cases hTimer : timer + 1 < 256
    · simp [hTimer, Nat.not_le.mpr hTimer]
    · simp only [hTimer, Nat.not_lt.mp hTimer, and_true, and_false, if_true, if_false]
      exact congrArg (·, _) (congrArg s.withSupply hSupply)

/-- What one tick brings joins the queue, in one of the two orders (assumption 6). -/
theorem eitherOrder_eq (s : State) (events samples : List Instr) : ∃ pending freeCount,
    eitherOrder s events samples = { s with pending := pending, freeCount := freeCount } ∧
    pending.Perm (events ++ samples) ∧ (freeCount = s.freeCount ∨ freeCount = s.freeCount + 1) := by
  unfold eitherOrder
  split
  · exact ⟨_, s.freeCount, rfl, .refl _, .inl rfl⟩
  · refine ⟨_, s.freeCount + 1, rfl, ?_, .inr rfl⟩
    split
    · exact List.perm_append_comm
    · exact .refl _

/-- The state in which the timers have counted one tick (R121, R149, R152, R157). -/
def ticked (s : State) : State :=
  { s with
    scanner := { s.scanner with
      tick := if scanRunning s = true ∧ s.scanner.tick + 1 < 32 * s.scanner.active.divider then
        s.scanner.tick + 1 else s.scanner.tick }
    panel := { s.panel with
      chargeTimer := s.panel.chargeTimer.map (fun n => n - 1)
      dischargeTimer := if s.panel.chargeTimer.isSome then s.panel.dischargeTimer
        else s.panel.dischargeTimer.map (fun n => n - 1) }
    supply := { s.supply with
      timer := if s.supply.enabled = true ∧ s.supply.timer + 1 < 256 then s.supply.timer + 1
        else s.supply.timer } }

theorem tick_eq (s : State) : ∃ pending freeCount,
    tick s = { ticked s with pending := pending, freeCount := freeCount } ∧
    pending.Perm (scanDue s ++ panelDue s ++ sampleDue s) ∧
    (freeCount = s.freeCount ∨ freeCount = s.freeCount + 1) := by
  unfold tick
  simp only [tickScan_eq, tickPanel_eq, tickSupply_eq]
  exact eitherOrder_eq (ticked s) (scanDue s ++ panelDue s) (sampleDue s)

theorem mem_scanDue (s : State) (c : Instr) : c ∈ scanDue s ↔
    scanRunning s = true ∧ 32 * s.scanner.active.divider ≤ s.scanner.tick + 1 ∧
      ((c = .rowChange ∧ s.scanner.row + 1 < activeCommons s) ∨
        (c = .frameBoundary ∧ activeCommons s ≤ s.scanner.row + 1 ∧ s.scanner.polarity = .positive) ∨
        (c = .pairBoundary ∧ activeCommons s ≤ s.scanner.row + 1 ∧
          s.scanner.polarity = .negative)) := by
  unfold scanDue
  split
  · rename_i h
    by_cases hRow : s.scanner.row + 1 < activeCommons s
    · simp [h, hRow, Nat.not_le.mpr hRow]
    · cases hPolarity : s.scanner.polarity <;> simp [h, hRow, Nat.not_lt.mp hRow]
  · rename_i h
    simp only [List.not_mem_nil, false_iff, not_and]
    exact fun h1 h2 => absurd ⟨h1, h2⟩ h

theorem mem_panelDue (s : State) (c : Instr) : c ∈ panelDue s ↔
    (c = .chargeExpiry ∧ ∃ n, s.panel.chargeTimer = some n ∧ n ≤ 1) ∨
      (c = .dischargeExpiry ∧ s.panel.chargeTimer = none ∧
        ∃ n, s.panel.dischargeTimer = some n ∧ n ≤ 1) := by
  unfold panelDue
  split
  · rename_i n h
    by_cases hn : n ≤ 1 <;> simp [h, hn]
  · rename_i n h h'
    by_cases hn : n ≤ 1 <;> simp [h, h', hn]
  · rename_i h h'
    simp [h, h']

theorem mem_sampleDue (s : State) (c : Instr) : c ∈ sampleDue s ↔
    c = .sample s.supply.millivolts ∧ s.supply.enabled = true ∧ 256 ≤ s.supply.timer + 1 := by
  unfold sampleDue
  split
  · rename_i h
    simp [h]
  · rename_i h
    simp only [List.not_mem_nil, false_iff, not_and]
    exact fun _ h1 h2 => h ⟨h1, h2⟩

/-- The scan, the panel and the monitor each bring at most one event at a tick, and different ones. -/
theorem due_nodup (s : State) : (scanDue s ++ panelDue s ++ sampleDue s).Nodup := by
  have hScan : (scanDue s).Nodup := by
    unfold scanDue
    split_ifs <;> simp
  have hPanel : (panelDue s).Nodup := by
    unfold panelDue
    split <;> try split
    all_goals simp
  have hSample : (sampleDue s).Nodup := by
    unfold sampleDue
    split <;> simp
  refine List.Nodup.append (List.Nodup.append hScan hPanel ?_) hSample ?_
  · intro c hc hc'
    rcases (mem_panelDue s c).mp hc' with ⟨rfl, -⟩ | ⟨rfl, -⟩ <;> simp [mem_scanDue] at hc
  · intro c hc hc'
    obtain ⟨rfl, -⟩ := (mem_sampleDue s c).mp hc'
    simp [mem_scanDue, mem_panelDue] at hc

/-- Nothing that comes due by itself is an access of the host or an event of the reset inputs. -/
theorem due_ordinary {s : State} {c : Instr} (h : c ∈ scanDue s ++ panelDue s ++ sampleDue s) :
    isHostAccess c = false ∧ isResetEvent c = false := by
  simp only [List.mem_append, mem_scanDue, mem_panelDue, mem_sampleDue] at h
  rcases h with (⟨-, -, ⟨rfl, -⟩ | ⟨rfl, -⟩ | ⟨rfl, -⟩⟩ | ⟨rfl, -⟩ | ⟨rfl, -⟩) | ⟨rfl, -⟩ <;>
    exact ⟨rfl, rfl⟩

theorem ending_ordinary (g : Grant) : isHostAccess g.ending = false ∧ isResetEvent g.ending = false := by
  cases g with
  | engine e => obtain ⟨access, dropped⟩ := e; cases access <;> exact ⟨rfl, rfl⟩
  | _ => exact ⟨rfl, rfl⟩

theorem takeCommand_ordinary (k : Kind) :
    isHostAccess k.takeCommand = false ∧ isResetEvent k.takeCommand = false := by
  cases k <;> exact ⟨rfl, rfl⟩

theorem tickReset_eq (s : State) : tickReset s =
    match s.resetInputs.powerOn with
    | .releasing n => { s with
        resetInputs := { s.resetInputs with powerOn := .releasing (n - 1) }
        pending := if n ≤ 1 then [.powerOnRelease] else [] }
    | .released | .supplyLow => s := by
  unfold tickReset countDown
  cases s.resetInputs.powerOn <;> simp [State.withResetInputs, State.withPending]

/-- What the part does by itself while no command waits, in the order of assumption 4. -/
theorem idleStep_of_inReset {s : State} (h : inReset s = true) : idleStep s = tickReset s := by
  rw [idleStep, if_pos h]

theorem idleStep_of_grant {s : State} (h : inReset s = false) {g : Grant}
    (hGrant : s.arbiter.grant = some g) : idleStep s = s.withPending [g.ending] := by
  simp only [idleStep, h, hGrant]
  rfl

theorem idleStep_of_take {s : State} (h : inReset s = false) (hGrant : s.arbiter.grant = none)
    (hIdle : s.engine.state = .idle) {e : Entry} {rest : List Entry} (hQueue : s.queue = e :: rest) :
    idleStep s = s.withPending [e.kind.takeCommand] := by
  simp only [idleStep, h, hGrant, hIdle, hQueue]
  rfl

theorem idleStep_of_tick {s : State} (h : inReset s = false) (hGrant : s.arbiter.grant = none)
    (hNone : s.engine.state ≠ .idle ∨ s.queue = []) : idleStep s = tick s := by
  simp only [idleStep, h, hGrant]
  split
  · exact absurd ‹_› (by simp)
  · split
    · simp_all
    · rfl

/-- The four things a step on an empty queue can be. -/
theorem idleStep_cases (s : State) :
    (inReset s = true ∧ idleStep s = tickReset s) ∨
    (inReset s = false ∧ ∃ g, s.arbiter.grant = some g ∧
      idleStep s = s.withPending [g.ending]) ∨
    (inReset s = false ∧ s.arbiter.grant = none ∧ s.engine.state = .idle ∧ ∃ e rest,
      s.queue = e :: rest ∧ idleStep s = s.withPending [e.kind.takeCommand]) ∨
    (inReset s = false ∧ s.arbiter.grant = none ∧ (s.engine.state ≠ .idle ∨ s.queue = []) ∧
      idleStep s = tick s) := by
  cases hIn : inReset s with
  | true => exact .inl ⟨rfl, idleStep_of_inReset hIn⟩
  | false =>
    refine .inr ?_
    cases hGrant : s.arbiter.grant with
    | some g => exact .inl ⟨rfl, g, rfl, idleStep_of_grant hIn hGrant⟩
    | none =>
      refine .inr ?_
      by_cases hNone : s.engine.state ≠ .idle ∨ s.queue = []
      · exact .inr ⟨rfl, rfl, hNone, idleStep_of_tick hIn hGrant hNone⟩
      · simp only [ne_eq, not_or, not_not] at hNone
        obtain ⟨e, rest, hQueue⟩ := List.exists_cons_of_ne_nil hNone.2
        exact .inl ⟨rfl, rfl, hNone.1, e, rest, hQueue, idleStep_of_take hIn hGrant hNone.1 hQueue⟩

/-- Settles O2: in each of the four cases the next state is known, and in a tick the queue is a
rearrangement of what comes due. -/
theorem emptyQueueStepCountsOrQueuesEvents : Obligations.EmptyQueueStepCountsOrQueuesEvents := by
  intro s hPending
  refine ⟨idleStep s, by simp only [step, hPending], ?_⟩
  rcases idleStep_cases s with ⟨hIn, hStep⟩ | ⟨hIn, g, hGrant, hStep⟩ |
    ⟨hIn, hGrant, hIdle, e, rest, hQueue, hStep⟩ | ⟨hIn, hGrant, hNone, hStep⟩
  · rw [hStep, tickReset_eq]
    refine ⟨?_, ?_, fun h => Bool.noConfusion (hIn.symm.trans h), fun _ => ⟨fun n hn => ?_, fun h => ?_⟩⟩
    · cases s.resetInputs.powerOn <;> rfl
    · intro c
      cases s.resetInputs.powerOn with
      | releasing n =>
        dsimp only
        split
        · intro hc
          cases List.mem_singleton.mp hc
          exact ⟨rfl, .inr rfl⟩
        · exact fun hc => absurd hc List.not_mem_nil
      | _ => simp [hPending]
    · rw [hn]
    · rcases h with h | h <;> rw [h]
  · rw [hStep]
    refine ⟨rfl, ?_, fun _ => ⟨fun g' hg => ?_, ?_, ?_⟩, fun h => Bool.noConfusion (hIn.symm.trans h)⟩
    · intro c hc
      cases List.mem_singleton.mp hc
      exact ⟨(ending_ordinary g).1, .inl (ending_ordinary g).2⟩
    · cases hGrant.symm.trans hg
      rfl
    · exact fun h => nomatch hGrant.symm.trans h
    · exact fun h => nomatch hGrant.symm.trans h
  · rw [hStep]
    refine ⟨rfl, ?_, fun _ => ⟨fun g hg => (nomatch hGrant.symm.trans hg), fun _ _ e' rest' hq => ?_,
      fun _ h => ?_⟩, fun h => Bool.noConfusion (hIn.symm.trans h)⟩
    · intro c hc
      cases List.mem_singleton.mp hc
      exact ⟨(takeCommand_ordinary _).1, .inl (takeCommand_ordinary _).2⟩
    · cases hQueue.symm.trans hq
      rfl
    · rcases h with h | h
      · exact absurd hIdle h
      · exact nomatch hQueue.symm.trans h
  · obtain ⟨pending, freeCount, hTick, hPerm, hFree⟩ := tick_eq s
    rw [hStep, hTick]
    refine ⟨rfl, fun c hc => ?_, fun _ => ⟨fun g hg => (nomatch hGrant.symm.trans hg),
      fun _ hIdle e rest hq => ?_, fun _ _ => ⟨rfl, hFree, hPerm.nodup_iff.mpr (due_nodup s), fun c => ?_⟩⟩,
      fun h => Bool.noConfusion (hIn.symm.trans h)⟩
    · have hDue := due_ordinary (hPerm.mem_iff.mp hc)
      exact ⟨hDue.1, .inl hDue.2⟩
    · rcases hNone with h | h
      · exact absurd hIdle h
      · exact nomatch hq.symm.trans h
    · rw [hPerm.mem_iff]
      simp only [List.mem_append, mem_scanDue, mem_panelDue, mem_sampleDue, or_assoc]

end Sys2Proof.Machine

namespace Sys2Proof.Machine

/-! # The invariants of memory and the display

Each is kept by every move, by every reset and by a tick, and so by every step. -/

/-! ## From moves, resets and ticks to steps -/

/-- What holds of a part, whatever commands wait, on through a tick and the count of the release interval,
leads after a step to what it leads to after the command at the front. -/
theorem step_leads {P Q : State → Prop} {Front : Instr → Prop} (hSame : ∀ s, P s → Q s)
    (hPending : ∀ s pending freeCount, P s → P { s with pending := pending, freeCount := freeCount })
    (hTicked : ∀ s, inReset s = false → P s → P (ticked s))
    (hRelease : ∀ s n, s.resetInputs.powerOn = .releasing n → P s →
      P { s with resetInputs := { s.resetInputs with powerOn := .releasing (n - 1) } })
    (hExec : ∀ c, Front c → ∀ s t, exec c s = .next t → P s → Q t) {s t : State}
    (h : step s = .next t) (hFront : ∀ c, s.pending.head? = some c → Front c) (hs : P s) : Q t := by
  unfold step at h
  split at h
  · cases h
    refine hSame _ ?_
    rcases idleStep_cases s with ⟨-, hStep⟩ | ⟨-, g, -, hStep⟩ | ⟨-, -, -, e, rest, -, hStep⟩ |
      ⟨hIn, -, -, hStep⟩ <;> rw [hStep]
    · rw [tickReset_eq]
      split
      · rename_i n hn
        exact hPending _ _ s.freeCount (hRelease s n hn hs)
      · exact hs
      · exact hs
    · exact hPending s _ s.freeCount hs
    · exact hPending s _ s.freeCount hs
    · obtain ⟨pending, freeCount, hTick, -⟩ := tick_eq s
      rw [hTick]
      exact hPending _ _ _ (hTicked s hIn hs)
  · rename_i c rest hQueue
    exact hExec c (hFront c (by rw [hQueue]; rfl)) _ _ h (hPending s _ s.freeCount hs)

/-- A property of the part that does not look at the waiting commands is kept by every step if it is kept by
every command, by a tick and by the count of the release interval. -/
theorem step_keeps {P : State → Prop}
    (hPending : ∀ s pending freeCount, P s → P { s with pending := pending, freeCount := freeCount })
    (hTicked : ∀ s, inReset s = false → P s → P (ticked s))
    (hRelease : ∀ s n, s.resetInputs.powerOn = .releasing n → P s →
      P { s with resetInputs := { s.resetInputs with powerOn := .releasing (n - 1) } })
    (hExec : ∀ c s t, exec c s = .next t → P s → P t) {s t : State} (h : step s = .next t)
    (hs : P s) : P t :=
  step_leads (Front := fun _ => True) (fun _ hs => hs) hPending hTicked hRelease (fun c _ => hExec c) h
    (fun _ _ => trivial) hs

/-! ## Memory -/

/-- A write cut by a device reset has landed or has not (R15). -/
theorem memoryAfterCut_wf {s : State} (h : MemoryInv s) : Memory.wf (memoryAfterCut s) = true := by
  have hCut : ∀ a v, Memory.wf
      (if Config.cutWriteLands s.freeCount then memoryWrite s.memory a v else s.memory) = true := by
    intro a v
    split
    · exact memoryWrite_wf _ a v h
    · exact h
  unfold memoryAfterCut
  dsimp only
  split <;> first | exact hCut _ _ | exact h

theorem DisplayMove.keeps_memoryInv {s t : State} (h : DisplayMove s t) (hs : MemoryInv s) :
    MemoryInv t := by
  cases h with
  | frame h => exact (congrArg (Memory.wf · = true) h.memory).mpr hs
  | byteWritten a v => exact memoryWrite_wf _ a v hs
  | blinkSet group v => cases group <;> exact hs
  | supplySwitched v => unfold setSupplyEnable; split <;> exact hs
  | pairPassed t _ h =>
    have hMemory : t.memory = s.memory := h.memory.trans (panelAtPairBoundary_memory _)
    exact (congrArg (Memory.wf · = true) hMemory).mpr hs
  | _ => exact hs

theorem ResetMove.keeps_memoryInv {s t : State} (h : ResetMove s t) (hs : MemoryInv s) :
    MemoryInv t := by
  cases h with
  | fall => exact memoryAfterCut_wf hs
  | rise => unfold releaseReset; split <;> exact hs
  | power => exact rfl
  | supply => unfold takeSupplyRise; split <;> exact hs
  | release => unfold takePowerOnRelease; split <;> exact hs

/-- Settles O57: of the moves only the write of a byte, and of the resets only a cut write, reach memory. -/
theorem everyStepKeepsMemoryCanonical : Obligations.EveryStepKeepsMemoryCanonical := by
  intro s hs t h
  exact step_keeps (P := MemoryInv) (fun _ _ _ hs => hs) (fun _ _ hs => hs) (fun _ _ _ hs => hs)
    (fun _ _ _ h hs => exec_keeps (fun _ _ => DisplayMove.keeps_memoryInv)
      (fun _ _ => ResetMove.keeps_memoryInv) h hs) h hs

/-! ## The panel sequencer -/

theorem DisplayMove.keeps_panelInv {s t : State} (h : DisplayMove s t) (hs : PanelInv s) :
    PanelInv t := by
  obtain ⟨hShow, hBlank, hAfter, hCharge, hDischarge, hContrast⟩ := hs
  unfold scanRunning at hContrast
  unfold PanelInv scanRunning
  cases h with
  | frame h => rw [h.panel]; exact ⟨hShow, hBlank, hAfter, hCharge, hDischarge, hContrast⟩
  | blinkSet group v => cases group <;> exact ⟨hShow, hBlank, hAfter, hCharge, hDischarge, hContrast⟩
  | supplySwitched v =>
    unfold setSupplyEnable
    split <;> exact ⟨hShow, hBlank, hAfter, hCharge, hDischarge, hContrast⟩
  | showNoted x h => exact ⟨hShow, hBlank, fun _ => h, hCharge, hDischarge, hContrast⟩
  | requestNoted x h h' => exact ⟨h, h', hAfter, hCharge, hDischarge, hContrast⟩
  | charging h n => simp_all [PanelState.scans]
  | stopping h => rcases h with h | h <;> simp_all [PanelState.scans]
  | off h => simp_all [PanelState.scans]
  | chargeCut h => simp_all [enterDischarging_eq, PanelState.scans]
  | scanCut h => simp [scanStopped]
  | scanStarts h =>
    cases hShow : s.panel.showAfterCharge <;> simp_all [atRow, PanelState.scans]
  | pairStops h => simp [scanStopped]
  | pairPassed t h hFrame =>
    have hPanel := hFrame.panel.trans (panelAtPairBoundary_panel _)
    change _ ∧ _ at *
    simp only [atRow, hPanel, activated]
    rcases h with h | h <;> cases hp : s.panel.pending <;> simp_all [PanelState.scans]
  | _ => exact ⟨hShow, hBlank, hAfter, hCharge, hDischarge, hContrast⟩

theorem reset_panelInv {s : State} (h : s.panel = Panel.reset) : PanelInv s := by
  unfold PanelInv scanRunning
  rw [h]
  decide

theorem ResetMove.keeps_panelInv {s t : State} (h : ResetMove s t) (hs : PanelInv s) :
    PanelInv t := by
  cases h with
  | fall => exact reset_panelInv rfl
  | rise => unfold releaseReset; split <;> exact hs
  | power => exact reset_panelInv rfl
  | supply => unfold takeSupplyRise; split <;> exact hs
  | release => unfold takePowerOnRelease; split <;> exact hs

theorem ticked_panelInv {s : State} (hs : PanelInv s) : PanelInv (ticked s) := by
  obtain ⟨hShow, hBlank, hAfter, hCharge, hDischarge, hContrast⟩ := hs
  refine ⟨hShow, hBlank, hAfter, ?_, ?_, hContrast⟩
  · simpa [ticked] using hCharge
  · simp only [ticked]
    split <;> simpa using hDischarge

/-! ## The scanner -/

theorem ScanConfig.period_pos (c : ScanConfig) : 0 < c.period := by
  unfold ScanConfig.period ScanConfig.divider
  positivity

/-- At row 0 of any configuration. -/
theorem scannerInv_of_rowZero {s : State} (hRow : s.scanner.row = 0) (hTick : s.scanner.tick = 0) :
    ScannerInv s := by
  intro _
  rw [hRow, hTick]
  exact ⟨ScanConfig.commons_pos _, ScanConfig.period_pos _⟩

theorem scannerInv_of_stopped {s : State} (h : scanRunning s = false) : ScannerInv s :=
  fun h' => Bool.noConfusion (h.symm.trans h')

theorem DisplayMove.keeps_scannerInv {s t : State} (h : DisplayMove s t) (hs : ScannerInv s) :
    ScannerInv t := by
  cases h with
  | frame h =>
    intro hRun
    rw [h.scanRunning] at hRun
    rw [activeCommons, h.scanner]
    exact hs hRun
  | scanConfigured v =>
    intro hRun
    have hRun' : scanRunning s = true := hRun
    simpa [setScanConfig, activeCommons, hRun'] using hs hRun'
  | blinkSet group v => cases group <;> exact hs
  | supplySwitched v => unfold setSupplyEnable; split <;> exact hs
  | charging h n => exact scannerInv_of_stopped rfl
  | stopping h =>
    intro _
    refine hs ?_
    rcases h with h | h <;> rw [scanRunning, h] <;> rfl
  | off h => exact scannerInv_of_stopped rfl
  | chargeCut h => exact scannerInv_of_stopped rfl
  | scanCut h => exact scannerInv_of_stopped rfl
  | scanStarts h => exact scannerInv_of_rowZero rfl rfl
  | rowStarts polarity row hScan hRow => exact fun _ => ⟨hRow, ScanConfig.period_pos _⟩
  | pairStops h => exact scannerInv_of_stopped rfl
  | pairPassed t h hFrame => exact scannerInv_of_rowZero rfl rfl
  | _ => exact hs

theorem ResetMove.keeps_scannerInv {s t : State} (h : ResetMove s t) (hs : ScannerInv s) :
    ScannerInv t := by
  cases h with
  | fall => exact scannerInv_of_stopped rfl
  | rise => unfold releaseReset; split <;> exact hs
  | power => exact scannerInv_of_stopped rfl
  | supply => unfold takeSupplyRise; split <;> exact hs
  | release => unfold takePowerOnRelease; split <;> exact hs

theorem ticked_scannerInv {s : State} (hs : ScannerInv s) : ScannerInv (ticked s) := by
  intro hRun
  obtain ⟨hRow, hTick⟩ := hs hRun
  refine ⟨hRow, ?_⟩
  simp only [ticked]
  split
  · rename_i h
    exact h.2
  · exact hTick

/-! ## The drive -/

/-- A row read that is no longer in progress is no row read at the arbiter. -/
def RowsDiscarded (b : Arbiter) : Prop := ∀ r, b.holdsRow r → r.discarded = true

theorem driveInv_iff (s : State) : DriveInv s ↔
    (scanRunning s = false → s.compositor.rowDots = none ∧ RowsDiscarded s.arbiter) := by
  refine forall_congr' fun _ => and_congr_right fun _ =>
    ⟨fun ⟨h, h'⟩ r hr => hr.elim (h r) fun ⟨p, hp⟩ => h' r p hp,
      fun h => ⟨fun r hr => h r (.inl hr), fun r p hr => h r (.inr ⟨p, hr⟩)⟩⟩

theorem discardRow_rowsDiscarded (b : Arbiter) : RowsDiscarded b.discardRow := by
  rintro r (h | ⟨p, h⟩)
  · obtain ⟨x, -, rfl⟩ := Option.map_eq_some_iff.mp h
    rfl
  · obtain ⟨g, -, hg⟩ := Option.map_eq_some_iff.mp h
    cases g <;> cases hg
    rfl

theorem DisplayMove.keeps_driveInv {s t : State} (h : DisplayMove s t) (hs : DriveInv s) :
    DriveInv t := by
  rw [driveInv_iff] at hs ⊢
  cases h with
  | frame h =>
    intro hRun
    rw [h.scanRunning] at hRun
    rw [h.compositor]
    exact ⟨(hs hRun).1, fun r hr => (hs hRun).2 r (h.rows r hr)⟩
  | rowLatched r p dots hGrant hKept =>
    intro hRun
    exact Bool.noConfusion (hKept.symm.trans ((hs hRun).2 r (.inr ⟨p, hGrant⟩)))
  | blinkSet group v => cases group <;> exact hs
  | supplySwitched v => unfold setSupplyEnable; split <;> exact hs
  | charging h n => exact fun _ => hs (by rw [scanRunning, h]; rfl)
  | stopping h => exact fun hRun => nomatch hRun
  | off h => exact fun _ => hs (by rw [scanRunning, h]; rfl)
  | chargeCut h => exact fun _ => hs (by rw [scanRunning, h]; rfl)
  | scanCut h => exact fun _ => ⟨rfl, discardRow_rowsDiscarded _⟩
  | scanStarts h => exact fun hRun => nomatch hRun
  | rowStarts polarity row hScan hRow => exact fun hRun => Bool.noConfusion (hScan.symm.trans hRun)
  | pairStops h => exact fun _ => ⟨rfl, discardRow_rowsDiscarded _⟩
  | pairPassed t h hFrame =>
    have hRun : scanRunning t = true := by
      rw [hFrame.scanRunning, scanRunning, panelAtPairBoundary_panel]
      rcases h with h | h <;> cases hp : s.panel.pending <;> simp [activated, h, hp, PanelState.scans]
    exact fun h' => Bool.noConfusion (hRun.symm.trans h')
  | _ => exact hs

theorem reset_driveInv {s : State} (hDots : s.compositor.rowDots = none)
    (hArbiter : s.arbiter = Arbiter.reset) : DriveInv s := by
  rw [driveInv_iff, hArbiter]
  exact fun _ => ⟨hDots, fun r hr => hr.elim (fun h => nomatch h) fun ⟨_, h⟩ => nomatch h⟩

theorem ResetMove.keeps_driveInv {s t : State} (h : ResetMove s t) (hs : DriveInv s) :
    DriveInv t := by
  cases h with
  | fall => exact reset_driveInv rfl rfl
  | rise => unfold releaseReset; split <;> exact hs
  | power => exact reset_driveInv rfl rfl
  | supply => unfold takeSupplyRise; split <;> exact hs
  | release => unfold takePowerOnRelease; split <;> exact hs

/-! ## The supply monitor -/

theorem DisplayMove.keeps_supplyInv {s t : State} (h : DisplayMove s t) (hs : SupplyInv s) :
    SupplyInv t := by
  cases h with
  | frame h => unfold SupplyInv at hs ⊢; rw [h.supply]; exact hs
  | blinkSet group v => cases group <;> exact hs
  | supplySwitched v =>
    unfold setSupplyEnable
    split
    · exact hs
    · exact ⟨fun _ => ⟨rfl, rfl⟩, Nat.succ_pos _⟩
  | supplySampled millivolts h =>
    exact ⟨fun h' => Bool.noConfusion (h.symm.trans h'), Nat.succ_pos _⟩
  | pairPassed t _ hFrame =>
    have hSupply := hFrame.supply.trans (panelAtPairBoundary_supply _)
    unfold SupplyInv at hs ⊢
    simp only [atRow, hSupply]
    exact hs
  | _ => exact hs

theorem ResetMove.keeps_supplyInv {s t : State} (h : ResetMove s t) (hs : SupplyInv s) :
    SupplyInv t := by
  cases h with
  | fall => exact ⟨fun h => (nomatch h), Nat.succ_pos _⟩
  | rise =>
    unfold releaseReset
    split
    · exact ⟨hs.1, Nat.succ_pos _⟩
    · exact hs
  | power => exact ⟨fun h => (nomatch h), Nat.succ_pos _⟩
  | supply => unfold takeSupplyRise; split <;> exact hs
  | release =>
    unfold takePowerOnRelease
    split
    · exact ⟨hs.1, Nat.succ_pos _⟩
    all_goals exact hs

theorem ticked_supplyInv {s : State} (hs : SupplyInv s) : SupplyInv (ticked s) := by
  refine ⟨hs.1, ?_⟩
  simp only [ticked]
  split
  · rename_i h
    exact h.2
  · exact hs.2

/-! ## The compositor -/

/-- A ZONE whose checks pass writes an entry in range (R22, R133). -/
theorem zoneEntry_inRange {e : Entry} (h : e.checkZone = none) : e.zoneEntry.inRange := by
  simp only [Entry.checkZone, ite_eq_right_iff, reduceCtorEq, imp_false, not_or, not_lt] at h
  obtain ⟨-, hColumns, hColumn, hRows, hRow⟩ := h
  simp only [ZoneEntry.inRange, Entry.zoneEntry, BitVec.toNat_setWidth]
  omega

theorem Blink.write_inRange {b : Blink} (h : b.inRange) (running : Bool) (setting : BlinkSetting) :
    (b.write running setting).inRange := by
  unfold Blink.write
  split
  · exact ⟨h.1, fun h' => nomatch h'⟩
  · exact ⟨Nat.succ_pos _, fun _ => rfl⟩

theorem Blink.atPairBoundary_inRange {b : Blink} (h : b.inRange) : b.atPairBoundary.inRange := by
  obtain ⟨hPosition, hCopies⟩ := h
  obtain ⟨hStaged, hActive, -⟩ := atPairBoundary_settings b
  refine ⟨?_, fun _ => hStaged.trans hActive.symm⟩
  rw [hActive]
  cases hRestart : b.restart with
  | true =>
    obtain ⟨hPhase, hZero⟩ := atPairBoundary_of_restart hRestart
    rw [hPhase, hZero]
    exact Nat.succ_pos _
  | false =>
    rw [← hCopies hRestart] at hPosition
    cases hPhase : b.phase with
    | on =>
      rw [hPhase] at hPosition
      obtain ⟨hEnd, hOn⟩ := atPairBoundary_of_on hRestart hPhase
      by_cases hCount : b.position + 1 = b.staged.onCount
      · rw [(hEnd hCount).1, (hEnd hCount).2]
        exact Nat.succ_pos _
      · rw [(hOn hCount).1, (hOn hCount).2]
        exact lt_of_le_of_ne hPosition hCount
    | off =>
      rw [hPhase] at hPosition
      obtain ⟨hEnd, hOff⟩ := atPairBoundary_of_off hRestart hPhase
      by_cases hCount : b.position + 1 = b.staged.offCount
      · rw [(hEnd hCount).1, (hEnd hCount).2]
        exact Nat.succ_pos _
      · rw [(hOff hCount).1, (hOff hCount).2]
        exact lt_of_le_of_ne hPosition hCount

theorem mem_set_zone {zones : Vector ZoneEntry 8} {i : Fin 8} {x z : ZoneEntry}
    (h : z ∈ (zones.set i x).toList) : z ∈ zones.toList ∨ z = x := by
  rw [Vector.toList_set] at h
  exact List.mem_or_eq_of_mem_set h

/-- A zone in range keeps a table in range. -/
theorem set_zone_inRange {zones : Vector ZoneEntry 8} {i : Fin 8} {x : ZoneEntry}
    (h : ∀ z ∈ zones.toList, z.inRange) (hx : x.inRange) :
    ∀ z ∈ (zones.set i x).toList, z.inRange := by
  intro z hz
  rcases mem_set_zone hz with hz | rfl
  · exact h z hz
  · exact hx

theorem DisplayMove.keeps_compositorInv {s t : State} (h : DisplayMove s t) (hs : CompositorInv s) :
    CompositorInv t := by
  obtain ⟨hStaged, hActive, hA, hB⟩ := hs
  cases h with
  | frame h => unfold CompositorInv; rw [h.compositor]; exact ⟨hStaged, hActive, hA, hB⟩
  | zoneWritten e h =>
    have hZone := zoneEntry_inRange h
    refine ⟨set_zone_inRange hStaged hZone, ?_, hA, hB⟩
    simp only [State.withCompositor_compositor, Compositor.withZone]
    split
    · exact hActive
    · exact set_zone_inRange hActive hZone
  | zonesReset => exact ⟨hActive, hActive, hA, hB⟩
  | blinkSet group v =>
    cases group
    · exact ⟨hStaged, hActive, Blink.write_inRange hA _ _, hB⟩
    · exact ⟨hStaged, hActive, hA, Blink.write_inRange hB _ _⟩
  | supplySwitched v => unfold setSupplyEnable; split <;> exact ⟨hStaged, hActive, hA, hB⟩
  | pairStops h =>
    exact ⟨hStaged, hStaged, Blink.atPairBoundary_inRange hA, Blink.atPairBoundary_inRange hB⟩
  | pairPassed t h hFrame =>
    have hCompositor := hFrame.compositor.trans (panelAtPairBoundary_compositor _)
    unfold CompositorInv
    simp only [atRow, hCompositor, activated]
    exact ⟨hStaged, hStaged, Blink.atPairBoundary_inRange hA, Blink.atPairBoundary_inRange hB⟩
  | _ => exact ⟨hStaged, hActive, hA, hB⟩

theorem reset_compositorInv {s : State} (h : s.compositor = Compositor.reset) : CompositorInv s := by
  have hZones : ∀ z ∈ Compositor.reset.stagedZones.toList, z.inRange := by
    unfold ZoneEntry.inRange
    decide
  unfold CompositorInv
  rw [h]
  exact ⟨hZones, hZones, ⟨Nat.succ_pos _, fun _ => rfl⟩, ⟨Nat.succ_pos _, fun _ => rfl⟩⟩

theorem ResetMove.keeps_compositorInv {s t : State} (h : ResetMove s t) (hs : CompositorInv s) :
    CompositorInv t := by
  cases h with
  | fall => exact reset_compositorInv rfl
  | rise => unfold releaseReset; split <;> exact hs
  | power => exact reset_compositorInv rfl
  | supply => unfold takeSupplyRise; split <;> exact hs
  | release => unfold takePowerOnRelease; split <;> exact hs

/-! ## The reset inputs -/

theorem DisplayMove.resetInputs {s t : State} (h : DisplayMove s t) :
    t.resetInputs = s.resetInputs := by
  cases h with
  | frame h => exact h.resetInputs
  | blinkSet group v => cases group <;> rfl
  | supplySwitched v => unfold setSupplyEnable; split <;> rfl
  | pairPassed t _ h => exact h.resetInputs.trans (panelAtPairBoundary_resetInputs _)
  | _ => rfl

theorem Moves.resetInputs {s t : State} (h : Moves s t) : t.resetInputs = s.resetInputs :=
  h.keeps (P := fun u => u.resetInputs = s.resetInputs) (fun _ _ hm hs => hm.resetInputs.trans hs) rfl

theorem Moves.inReset {s t : State} (h : Moves s t) : inReset t = inReset s := by
  rw [Machine.inReset, h.resetInputs]
  rfl

theorem takePowerOnReset_resetInv (s : State) : ResetInv (takePowerOnReset s) :=
  fun _ => ⟨rfl, rfl, rfl, rfl, rfl, rfl, rfl⟩

/-- A reset leaves the part in a reset whose blocks stand at their reset values, or out of reset. -/
theorem ResetMove.keeps_resetInv {s t : State} (h : ResetMove s t) (hs : ResetInv s) :
    ResetInv t := by
  cases h with
  | fall => exact fun _ => ⟨rfl, rfl, rfl, rfl, rfl, rfl, rfl⟩
  | rise =>
    unfold releaseReset
    split
    · rename_i h
      exact fun _ => hs (by simp [inReset, h])
    · exact hs
  | power => exact takePowerOnReset_resetInv s
  | supply =>
    unfold takeSupplyRise
    split
    · rename_i h
      exact fun _ => hs (by simp [inReset, h])
    · exact hs
  | release =>
    unfold takePowerOnRelease
    split
    · rename_i h
      exact fun _ => hs (by simp [inReset, h])
    all_goals exact hs

theorem role_of_isResetEvent {c : Instr} (h : isResetEvent c = true) :
    ∃ event, role c = .reset event := by
  cases c with
  | deviceReset | resetRelease | powerOnReset | supplyRise | powerOnRelease => exact ⟨_, rfl⟩
  | _ => cases h

/-- A command that is not ordinary is a reset, after the due takes where it is a sample. -/
theorem resetMove_of_not_ordinary {c : Instr} (hc : ¬ Ordinary c) (s : State) :
    ResetMove s ((role c).run s) ∨ ∃ u, (role c).run s = takePowerOnReset u := by
  cases hReset : isResetEvent c with
  | true =>
    obtain ⟨event, hRole⟩ := role_of_isResetEvent hReset
    rw [hRole]
    exact .inl (reset_cases (motive := fun f => ResetMove s (f s)) (.fall s) (.rise s) (.power s)
      (.supply s) (.release s) hRole)
  | false =>
    have hSample : ∃ millivolts, c = .sample millivolts ∧ millivolts < 2000 := by
      by_contra hNone
      exact hc ⟨hReset, fun millivolts h => Nat.not_lt.mp fun hLow => hNone ⟨millivolts, h, hLow⟩⟩
    obtain ⟨millivolts, rfl, hLow⟩ := hSample
    exact .inr ⟨_, if_pos hLow⟩

/-- A command keeps the reset values of a part in reset: an ordinary one does nothing there. -/
theorem exec_keeps_resetInv {c : Instr} {s t : State} (h : exec c s = .next t) (hs : ResetInv s) :
    ResetInv t := by
  by_cases hc : Ordinary c
  · cases hIn : inReset s with
    | true =>
      rw [exec_eq_role, role_run_of_inReset hs hIn hc] at h
      cases h
      exact hs
    | false =>
      intro h'
      rw [(exec_moves_of_ordinary hc h).inReset] at h'
      exact Bool.noConfusion (hIn.symm.trans h')
  · rw [exec_eq_role] at h
    cases h
    rcases resetMove_of_not_ordinary hc s with h | ⟨u, h⟩
    · exact h.keeps_resetInv hs
    · rw [h]
      exact takePowerOnReset_resetInv u

theorem ticked_resetInv {s : State} (hIn : inReset s = false) : ResetInv (ticked s) :=
  fun h => Bool.noConfusion (hIn.symm.trans h)

/-- Settles O58: each invariant is kept by the moves, the resets and the tick. -/
theorem everyStepKeepsTheDisplayInvariants : Obligations.EveryStepKeepsTheDisplayInvariants := by
  intro s t h
  refine ⟨step_keeps (P := PanelInv) (fun _ _ _ hs => hs) (fun _ _ => ticked_panelInv)
      (fun _ _ _ hs => hs) (fun _ _ _ => exec_keeps (fun _ _ => DisplayMove.keeps_panelInv)
        (fun _ _ => ResetMove.keeps_panelInv)) h,
    step_keeps (P := ScannerInv) (fun _ _ _ hs => hs) (fun _ _ => ticked_scannerInv)
      (fun _ _ _ hs => hs) (fun _ _ _ => exec_keeps (fun _ _ => DisplayMove.keeps_scannerInv)
        (fun _ _ => ResetMove.keeps_scannerInv)) h,
    step_keeps (P := DriveInv) (fun _ _ _ hs => hs) (fun _ _ hs => hs) (fun _ _ _ hs => hs)
      (fun _ _ _ => exec_keeps (fun _ _ => DisplayMove.keeps_driveInv)
        (fun _ _ => ResetMove.keeps_driveInv)) h,
    step_keeps (P := SupplyInv) (fun _ _ _ hs => hs) (fun _ _ => ticked_supplyInv)
      (fun _ _ _ hs => hs) (fun _ _ _ => exec_keeps (fun _ _ => DisplayMove.keeps_supplyInv)
        (fun _ _ => ResetMove.keeps_supplyInv)) h,
    step_keeps (P := CompositorInv) (fun _ _ _ hs => hs) (fun _ _ hs => hs) (fun _ _ _ hs => hs)
      (fun _ _ _ => exec_keeps (fun _ _ => DisplayMove.keeps_compositorInv)
        (fun _ _ => ResetMove.keeps_compositorInv)) h,
    step_keeps (P := ResetInv) (fun _ _ _ hs => hs) (fun _ hIn _ => ticked_resetInv hIn) ?_
      (fun _ _ _ => exec_keeps_resetInv) h⟩
  intro u n hn hu _
  exact hu (by simp [inReset, hn])

end Sys2Proof.Machine

namespace Sys2Proof.Machine

/-! # The arbiter

What is at the arbiter, waiting or in progress; that serving moves it and neither adds nor removes; and what
the arbiter must meet for an engine. -/

/-! ## What is at the arbiter -/

/-- A data-port access is at the arbiter. -/
def Arbiter.holdsPort (b : Arbiter) (p : PortAccess) : Prop :=
  b.portRequest = some p ∨ b.grant = some (.port p)

/-- An engine access is at the arbiter. -/
def Arbiter.holdsEngine (b : Arbiter) (e : EngineRequest) : Prop :=
  b.engineRequest = some e ∨ b.grant = some (.engine e)

theorem portBusy_iff (s : State) : portBusy s = true ↔ ∃ p, s.arbiter.holdsPort p := by
  unfold portBusy Arbiter.holdsPort
  cases s.arbiter.portRequest with
  | some p => simp
  | none =>
    cases s.arbiter.grant with
    | none => simp
    | some g => cases g <;> simp

theorem droppedOutstanding_iff (s : State) :
    droppedOutstanding s = true ↔ ∃ e, s.arbiter.holdsEngine e ∧ e.dropped = true := by
  unfold droppedOutstanding Arbiter.holdsEngine
  cases s.arbiter.engineRequest with
  | some e =>
    cases s.arbiter.grant with
    | none => simp
    | some g => cases g <;> simp [or_and_right, exists_or]
  | none =>
    cases s.arbiter.grant with
    | none => simp
    | some g => cases g <;> simp

theorem engineBusy_iff (s : State) : engineBusy s = true ↔ ∃ e, s.arbiter.holdsEngine e := by
  unfold engineBusy Arbiter.holdsEngine
  cases s.arbiter.engineRequest with
  | some e => simp
  | none =>
    cases s.arbiter.grant with
    | none => simp
    | some g => cases g <;> simp [Grant.isEngine]

/-! ## Serving -/

/-- What the arbiter can do to its own state (R9). -/
inductive Serves (shown : Fin 4) : Arbiter → Arbiter → Prop
  | busy {b : Arbiter} {g : Grant} (h : b.grant = some g) : Serves shown b b
  | row {b : Arbiter} {r : RowRequest} (h : b.grant = none) (hr : b.rowRequest = some r) :
      Serves shown b { b with grant := some (.row r shown), rowRequest := none }
  | port {b : Arbiter} {p : PortAccess} (h : b.grant = none) (hr : b.rowRequest = none)
      (hp : b.portRequest = some p) :
      Serves shown b { b with
        grant := some (.port p), portRequest := none, engineOwed := b.engineRequest.isSome }
  | engine {b : Arbiter} {e : EngineRequest} (h : b.grant = none) (hr : b.rowRequest = none)
      (hp : b.portRequest = none) (he : b.engineRequest = some e) :
      Serves shown b { b with
        grant := some (.engine e), engineRequest := none, engineOwed := false }
  | nothing {b : Arbiter} (h : b.grant = none) (hr : b.rowRequest = none)
      (hp : b.portRequest = none) (he : b.engineRequest = none) : Serves shown b b

theorem arbitrate_serves (s : State) : Serves s.pages.shown s.arbiter (arbitrate s).arbiter := by
  unfold arbitrate
  split
  · exact .busy ‹_›
  · split
    · exact .row ‹_› ‹_›
    · split
      · exact .port ‹_› ‹_› ‹_›
      · split
        · exact .engine ‹_› ‹_› ‹_› ‹_›
        · exact .nothing ‹_› ‹_› ‹_› ‹_›

/-- The arbiter has nothing to do where no request waits while memory is free. -/
theorem arbitrate_of_busy {s : State} (h : ArbiterBusyInv s) : arbitrate s = s := by
  cases hg : s.arbiter.grant with
  | some g => simp [arbitrate, hg]
  | none =>
    obtain ⟨hr, hp, he⟩ := h hg
    simp [arbitrate, hg, hr, hp, he]

section
variable {shown : Fin 4} {b b' : Arbiter} (h : Serves shown b b')
include h

theorem Serves.holdsRow (r : RowRequest) : b'.holdsRow r ↔ b.holdsRow r := by
  unfold Arbiter.holdsRow
  cases h <;> simp_all [eq_comm]

theorem Serves.holdsPort (p : PortAccess) : b'.holdsPort p ↔ b.holdsPort p := by
  unfold Arbiter.holdsPort
  cases h <;> simp_all [eq_comm]

theorem Serves.holdsEngine (e : EngineRequest) : b'.holdsEngine e ↔ b.holdsEngine e := by
  unfold Arbiter.holdsEngine
  cases h <;> simp_all [eq_comm]

end

/-- Serving ends with a grant in progress, or nothing waiting. -/
theorem Serves.busy' {shown : Fin 4} {b b' : Arbiter} (h : Serves shown b b') :
    b'.grant = none → b'.rowRequest = none ∧ b'.portRequest = none ∧ b'.engineRequest = none := by
  cases h <;> simp_all

@[simp] theorem arbitrate_engine (s : State) : (arbitrate s).engine = s.engine := by
  obtain ⟨b, h⟩ := arbitrate_frame s
  rw [h]
  rfl

@[simp] theorem arbitrate_queue (s : State) : (arbitrate s).queue = s.queue := by
  obtain ⟨b, h⟩ := arbitrate_frame s
  rw [h]
  rfl

@[simp] theorem arbitrate_ring (s : State) : (arbitrate s).ring = s.ring := by
  obtain ⟨b, h⟩ := arbitrate_frame s
  rw [h]
  rfl

@[simp] theorem arbitrate_pages (s : State) : (arbitrate s).pages = s.pages := by
  obtain ⟨b, h⟩ := arbitrate_frame s
  rw [h]
  rfl

@[simp] theorem arbitrate_port (s : State) : (arbitrate s).port = s.port := by
  obtain ⟨b, h⟩ := arbitrate_frame s
  rw [h]
  rfl

@[simp] theorem arbitrate_spaceThreshold (s : State) :
    (arbitrate s).spaceThreshold = s.spaceThreshold := by
  obtain ⟨b, h⟩ := arbitrate_frame s
  rw [h]
  rfl

/-! ## What an arbiter must meet for an engine -/

/-- The arbiter of a legal state, before it has served: R12's one engine access, which is the next of the
RUNNING command unless dropped; a request owed the grant waits (R9); and every access is for mapped bytes
(R6, R66, R126). -/
structure ArbiterFits (g : Engine) (b : Arbiter) : Prop where
  oneAccess : ∀ e, b.engineRequest = some e → ∀ e', b.grant ≠ some (.engine e')
  current : ∀ e, b.holdsEngine e → e.dropped = false →
    g.state = .running ∧ g.current.bind Current.nextAccess = some e.access
  asks : g.state = .running → ∃ e, b.holdsEngine e
  owed : b.engineOwed = true → b.engineRequest.isSome = true ∧ b.portRequest = none
  portMapped : ∀ p, b.holdsPort p → mapped p.address = true
  engineMapped : ∀ e, b.holdsEngine e → ∀ a ∈ e.access.addresses, mapped a = true
  rowInPage : ∀ r, b.holdsRow r → r.row < 20

/-- The arbiter with no engine access at it. -/
structure ArbiterQuiet (b : Arbiter) : Prop where
  noAccess : ∀ e, ¬ b.holdsEngine e
  notOwed : b.engineOwed = false
  portMapped : ∀ p, b.holdsPort p → mapped p.address = true
  rowInPage : ∀ r, b.holdsRow r → r.row < 20

theorem ArbiterFits.quiet {g : Engine} {b : Arbiter} (h : ArbiterFits g b)
    (hNone : ∀ e, ¬ b.holdsEngine e) : ArbiterQuiet b where
  noAccess := hNone
  notOwed := by
    cases hOwed : b.engineOwed with
    | false => rfl
    | true =>
      obtain ⟨e, he⟩ := Option.isSome_iff_exists.mp (h.owed hOwed).1
      exact absurd (.inl he) (hNone e)
  portMapped := h.portMapped
  rowInPage := h.rowInPage

/-- An arbiter without an engine access fits every engine that does not run. -/
theorem ArbiterQuiet.fits {b : Arbiter} (h : ArbiterQuiet b) {g : Engine} (hg : g.state ≠ .running) :
    ArbiterFits g b where
  oneAccess e he := absurd (.inl he) (h.noAccess e)
  current e he := absurd he (h.noAccess e)
  asks hRunning := absurd hRunning hg
  owed hOwed := Bool.noConfusion (h.notOwed.symm.trans hOwed)
  portMapped := h.portMapped
  engineMapped e he := absurd he (h.noAccess e)
  rowInPage := h.rowInPage

/-- The accesses at the arbiter do not tell engines apart that have the same work to do. -/
theorem ArbiterFits.of_same_work {g g' : Engine} {b : Arbiter} (h : ArbiterFits g b)
    (hState : g'.state = g.state)
    (hWork : g'.current.bind Current.nextAccess = g.current.bind Current.nextAccess) :
    ArbiterFits g' b :=
  { h with
    current := fun e he hd => ⟨hState.trans (h.current e he hd).1, hWork.trans (h.current e he hd).2⟩
    asks := fun hRunning => h.asks (hState.symm.trans hRunning) }

/-- Serving keeps what the arbiter must meet. -/
theorem ArbiterFits.serves {g : Engine} {b b' : Arbiter} {shown : Fin 4} (h : ArbiterFits g b)
    (hServes : Serves shown b b') : ArbiterFits g b' where
  oneAccess := by
    have hOne := h.oneAccess
    cases hServes <;> simp_all
  current e he := h.current e ((hServes.holdsEngine e).mp he)
  asks hRunning := (h.asks hRunning).imp fun e he => (hServes.holdsEngine e).mpr he
  owed := by
    have hOwed := h.owed
    cases hServes <;> simp_all
  portMapped p hp := h.portMapped p ((hServes.holdsPort p).mp hp)
  engineMapped e he := h.engineMapped e ((hServes.holdsEngine e).mp he)
  rowInPage r hr := h.rowInPage r ((hServes.holdsRow r).mp hr)

/-- An arbiter with a grant less. -/
theorem ArbiterFits.released {g : Engine} {b : Arbiter} (h : ArbiterFits g b)
    (hGrant : ∀ e, b.grant ≠ some (.engine e)) : ArbiterFits g { b with grant := none } where
  oneAccess _ _ _ := nofun
  current e he := h.current e (he.imp_right (nomatch ·))
  asks hRunning := by
    obtain ⟨e, he⟩ := h.asks hRunning
    exact ⟨e, he.imp_right fun hg => absurd hg (hGrant e)⟩
  owed := h.owed
  portMapped p hp := h.portMapped p (hp.imp_right (nomatch ·))
  engineMapped e he := h.engineMapped e (he.imp_right (nomatch ·))
  rowInPage r hr := h.rowInPage r (hr.imp_right (nomatch ·))

/-- The end of an engine grant leaves no engine access. -/
theorem ArbiterFits.quiet_released {g : Engine} {b : Arbiter} (h : ArbiterFits g b)
    {e : EngineRequest} (hGrant : b.grant = some (.engine e)) :
    ArbiterQuiet { b with grant := none } := by
  have hNone : b.engineRequest = none := by
    cases hr : b.engineRequest with
    | none => rfl
    | some x => exact absurd hGrant (h.oneAccess x hr e)
  refine ⟨fun x hx => ?_, ?_, fun p hp => h.portMapped p (hp.imp_right (nomatch ·)),
    fun r hr => h.rowInPage r (hr.imp_right (nomatch ·))⟩
  · rcases hx with hx | hx
    · exact nomatch hNone.symm.trans hx
    · exact nomatch hx
  · cases hOwed : b.engineOwed with
    | false => rfl
    | true => simpa [hNone] using (h.owed hOwed).1

/-- The engine's request on an arbiter that has none of its accesses. -/
theorem ArbiterQuiet.asked {b : Arbiter} (h : ArbiterQuiet b) {g : Engine} {access : EngineAccess}
    {dropped : Bool} (hRunning : dropped = false → g.state = .running)
    (hWork : dropped = false → g.current.bind Current.nextAccess = some access)
    (hMapped : ∀ a ∈ access.addresses, mapped a = true) :
    ArbiterFits g { b with engineRequest := some ⟨access, dropped⟩ } := by
  have hOnly : ∀ e, Arbiter.holdsEngine { b with engineRequest := some ⟨access, dropped⟩ } e →
      e = ⟨access, dropped⟩ := by
    rintro e (he | he)
    · exact (Option.some.inj he).symm
    · exact absurd (.inr he) (h.noAccess e)
  refine ⟨fun _ _ e hg => h.noAccess e (.inr hg), fun e he hd => ?_, fun _ => ⟨_, .inl rfl⟩,
    fun hOwed => Bool.noConfusion (h.notOwed.symm.trans hOwed), h.portMapped, fun e he => ?_,
    h.rowInPage⟩
  · cases hOnly e he
    exact ⟨hRunning hd, hWork hd⟩
  · cases hOnly e he
    exact hMapped

/-! ## The engine's own requests -/

/-- The engine leaves the arbiter as it is, or asks for one access where it had none. -/
def MayAsk (b b' : Arbiter) : Prop :=
  b' = b ∨ ∃ access shown, b.engineRequest = none ∧
    Serves shown { b with engineRequest := some ⟨access, false⟩ } b'

section
variable {b b' : Arbiter} (h : MayAsk b b')
include h

theorem MayAsk.holdsPort {p : PortAccess} (hp : b'.holdsPort p) : b.holdsPort p := by
  rcases h with rfl | ⟨access, shown, -, h⟩
  · exact hp
  · exact (h.holdsPort p).mp hp

/-- What the engine asks for has not been dropped. -/
theorem MayAsk.holdsEngine {e : EngineRequest} (he : b'.holdsEngine e) (hd : e.dropped = true) :
    b.holdsEngine e := by
  rcases h with rfl | ⟨access, shown, -, h⟩
  · exact he
  · rcases (h.holdsEngine e).mp he with he | he
    · cases he
      cases hd
    · exact .inr he

theorem MayAsk.busy (hBusy : b.grant = none →
      b.rowRequest = none ∧ b.portRequest = none ∧ b.engineRequest = none) :
    b'.grant = none → b'.rowRequest = none ∧ b'.portRequest = none ∧ b'.engineRequest = none := by
  rcases h with rfl | ⟨access, shown, -, h⟩
  · exact hBusy
  · exact h.busy'

end

theorem raiseEngine_mayAsk (s : State) : MayAsk s.arbiter (raiseEngine s).arbiter := by
  unfold raiseEngine
  split
  · split
    · exact .inl rfl
    · rename_i hBusy
      have hNone : s.arbiter.engineRequest = none := by
        cases he : s.arbiter.engineRequest with
        | none => rfl
        | some e => simp [engineBusy, he] at hBusy
      split
      · rename_i a _
        exact .inr ⟨a, _, hNone, arbitrate_serves (s.withArbiter { s.arbiter with
          engineRequest := some ⟨a, false⟩ })⟩
      · exact .inl rfl
  · exact .inl rfl

/-! Of the endings, beginnings and judgements of a command only a beginning asks. -/

@[simp] theorem complete_arbiter (status : Status) (progress : Nat) (clipped held : Bool) (s : State) :
    (complete status progress clipped held s).arbiter = s.arbiter := by
  obtain ⟨ring, engine, h⟩ := complete_frame status progress clipped held s
  rw [h]

@[simp] theorem faultWith_arbiter (status : Status) (s : State) :
    (faultWith status s).arbiter = s.arbiter := by
  obtain ⟨ring, engine, h⟩ := faultWith_frame status s
  rw [h]

@[simp] theorem handOver_arbiter (s : State) : (handOver s).arbiter = s.arbiter := by
  obtain ⟨ring, engine, pages, h⟩ := handOver_frame s
  rw [h]

@[simp] theorem hold_arbiter (reason : HoldReason) (s : State) :
    (hold reason s).arbiter = s.arbiter := by
  unfold hold
  split <;> rfl

theorem beginDrawing_mayAsk (s : State) : MayAsk s.arbiter (beginDrawing s).arbiter := by
  unfold beginDrawing
  split
  · exact .inl rfl
  · exact raiseEngine_mayAsk (s.withEngine _)

theorem holdRule_mayAsk (s : State) : MayAsk s.arbiter (holdRule s).arbiter := by
  unfold holdRule
  split
  · exact .inl rfl
  · split <;> split
    · exact .inl (hold_arbiter _ s)
    · exact beginDrawing_mayAsk s
    · exact .inl (faultWith_arbiter _ s)
    · exact beginDrawing_mayAsk s

theorem reevaluate_mayAsk (s : State) : MayAsk s.arbiter (reevaluate s).arbiter := by
  unfold reevaluate
  split
  · exact holdRule_mayAsk s
  · exact .inl (handOver_arbiter s)
  · exact .inl rfl

theorem engineTakesScanEvent_mayAsk (counted stopped switched : Bool) (s : State) :
    MayAsk s.arbiter (engineTakesScanEvent counted stopped switched s).arbiter := by
  unfold engineTakesScanEvent
  split
  · rename_i c _ _
    split
    · dsimp only
      generalize (if counted then c.progress + 1 else c.progress) = n
      split_ifs
      · exact .inl (complete_arbiter _ _ _ _ _)
      · exact .inl (complete_arbiter _ _ _ _ _)
      · exact .inl rfl
    · split
      · exact .inl (complete_arbiter _ _ _ _ _)
      · exact .inl rfl
    all_goals exact .inl rfl
  · split
    · exact reevaluate_mayAsk s
    · exact .inl rfl
  · exact .inl rfl

theorem disposal_mayAsk (k : Kind) (e : Entry) (s : State) :
    MayAsk s.arbiter (disposal k e s).arbiter := by
  have hDrawing : MayAsk s.arbiter (disposeDrawing e s).arbiter := by
    unfold disposeDrawing
    split
    · exact beginDrawing_mayAsk s
    · exact holdRule_mayAsk s
  cases k with
  | copy => exact hDrawing
  | stamp => exact hDrawing
  | present =>
    simp only [disposal, disposePresent]
    split
    · exact .inl (hold_arbiter _ s)
    · exact .inl (handOver_arbiter s)
  | zone => exact .inl (complete_arbiter _ _ _ _ _)
  | wait =>
    simp only [disposal, disposeWait]
    split
    · exact .inl rfl
    · exact .inl (complete_arbiter _ _ _ _ _)
  | mark => exact .inl (complete_arbiter _ _ _ _ _)

/-- A take of the head entry by an IDLE engine, as one case distinction. -/
theorem takeNext_eq {s : State} {e : Entry} {rest : List Entry} (hIdle : s.engine.state = .idle)
    (hQueue : s.queue = e :: rest) : takeNext s =
      match e.check with
      | some f => faultWith f (taken e rest s)
      | none => disposal e.kind e (taken e rest s) := by
  have hTake : takeNext s = takeAnd e.kind (disposal e.kind) s := by simp only [takeNext, hQueue]
  exact hTake.trans (takeAnd_eq hIdle hQueue (disposal e.kind))

/-- An engine elsewhere than in IDLE, or an empty queue, takes nothing. -/
theorem takeNext_of_none {s : State} (h : s.engine.state ≠ .idle ∨ s.queue = []) :
    takeNext s = s := by
  cases hQueue : s.queue with
  | nil => simp only [takeNext, hQueue]
  | cons e rest =>
    simp only [takeNext, hQueue]
    exact takeAnd_of_not_idle (h.resolve_right (by simp [hQueue])) _ _

theorem takeNext_mayAsk (s : State) : MayAsk s.arbiter (takeNext s).arbiter := by
  by_cases hNone : s.engine.state ≠ .idle ∨ s.queue = []
  · rw [takeNext_of_none hNone]
    exact .inl rfl
  · simp only [ne_eq, not_or, not_not] at hNone
    obtain ⟨e, rest, hQueue⟩ := List.exists_cons_of_ne_nil hNone.2
    rw [takeNext_eq hNone.1 hQueue]
    cases e.check with
    | some f => exact .inl (faultWith_arbiter _ _)
    | none => exact disposal_mayAsk e.kind e (taken e rest s)

end Sys2Proof.Machine

namespace Sys2Proof.Machine

/-! # Operands (04_copy_and_stamp_operations.md)

The checks of COPY and STAMP as ranges of mapped addresses, the addresses a command reaches, the pages it
touches and the bits a STAMP changes. -/

theorem mapped_iff (a : Nat) : mapped a = true ↔ a < 0x0E80 := decide_eq_true_iff

/-! ## COPY -/

theorem checkCopy_eq_none_iff (e : Entry) : e.checkCopy = none ↔
    (1 ≤ e.count ∧ e.count ≤ 4096) ∧ mapped (e.copySource (e.count - 1)) = true ∧
      mapped (e.copyDestination (e.count - 1)) = true := by
  unfold Entry.checkCopy
  split_ifs with hCount hSource hDestination
  · simp only [false_iff]
    omega
  · simp_all
  · simp_all
  · simp only [true_iff]
    exact ⟨by omega, by simpa using hSource, by simpa using hDestination⟩

/-- The last address of a COPY is its highest (R66). -/
theorem copySource_le {e : Entry} {k n : Nat} (h : k ≤ n) : e.copySource k ≤ e.copySource n := by
  unfold Entry.copySource
  split <;> omega

theorem copyDestination_le {e : Entry} {k n : Nat} (h : k ≤ n) :
    e.copyDestination k ≤ e.copyDestination n := by
  unfold Entry.copyDestination
  split <;> omega

/-- A range that rises is mapped where its last address is. -/
theorem mapped_range_iff {f : Nat → Nat} (hMono : ∀ k n, k ≤ n → f k ≤ f n) {count : Nat}
    (hCount : 1 ≤ count) : mapped (f (count - 1)) = true ↔ ∀ k, k < count → f k < 0x0E80 := by
  rw [mapped_iff]
  refine ⟨fun h k hk => (hMono k (count - 1) (by omega)).trans_lt h, fun h => h _ (by omega)⟩

theorem mapped_copySource_iff {e : Entry} (h : 1 ≤ e.count) :
    mapped (e.copySource (e.count - 1)) = true ↔ ∀ k, k < e.count → e.copySource k < 0x0E80 :=
  mapped_range_iff (fun _ _ => copySource_le) h

theorem mapped_copyDestination_iff {e : Entry} (h : 1 ≤ e.count) :
    mapped (e.copyDestination (e.count - 1)) = true ↔
      ∀ k, k < e.count → e.copyDestination k < 0x0E80 :=
  mapped_range_iff (fun _ _ => copyDestination_le) h

/-! ## STAMP -/

/-- The fields of a STAMP are in range (R73). -/
def Entry.stampInRange (e : Entry) : Prop :=
  e.stampPage ≤ 3 ∧ (1 ≤ e.width ∧ e.width ≤ 64) ∧ (1 ≤ e.height ∧ e.height ≤ 20) ∧ e.column ≤ 63 ∧
    e.row ≤ 19

theorem checkStamp_of_out_of_range {e : Entry} (h : ¬ e.stampInRange) :
    e.checkStamp = some .parameter := by
  refine if_pos ?_
  unfold Entry.stampInRange at h
  omega

theorem checkStamp_of_in_range {e : Entry} (h : e.stampInRange) :
    e.checkStamp = if mapped e.stampLastSource then none else some .sourceRange := by
  unfold Entry.stampInRange at h
  rw [Entry.checkStamp, if_neg (by omega)]
  cases mapped e.stampLastSource <;> rfl

theorem checkStamp_eq_none_iff (e : Entry) :
    e.checkStamp = none ↔ e.stampInRange ∧ mapped e.stampLastSource = true := by
  by_cases h : e.stampInRange
  · rw [checkStamp_of_in_range h]
    cases mapped e.stampLastSource <;> simp [h]
  · simp [checkStamp_of_out_of_range h, h]

/-- The last source address of a STAMP is its highest, over the full width and height (R76). -/
theorem mapped_stampLastSource_iff {e : Entry} (h : e.stampInRange) :
    mapped e.stampLastSource = true ↔
      ∀ i m, i < e.height → 8 * m < e.width → e.stampSource i m < 0x0E80 := by
  obtain ⟨-, ⟨hWidth, -⟩, ⟨hHeight, -⟩, -, -⟩ := h
  rw [mapped_iff, Entry.stampLastSource]
  constructor
  · intro hLast i m hi hm
    have hRow : i * e.stride ≤ (e.height - 1) * e.stride := Nat.mul_le_mul_right _ (by omega)
    unfold Entry.stampSource
    omega
  · intro hAll
    have hLast := hAll (e.height - 1) ((e.width + 7) / 8 - 1) (by omega) (by omega)
    unfold Entry.stampSource at hLast
    omega

theorem stampPageNumber_val {e : Entry} (h : e.stampPage ≤ 3) : e.stampPageNumber.val = e.stampPage :=
  Nat.mod_eq_of_lt (by omega)

/-- Where the bytes of a STAMP's rows stand in its page (R4, R77). -/
theorem stampDestination_eq {e : Entry} (h : e.stampPage ≤ 3) (i n : Nat) :
    e.stampDestination i n =
      0x0C00 + 160 * e.stampPage + 8 * (e.row + i) + e.column / 8 + n := by
  simp only [Entry.stampDestination, rowAddress, pageBase, pageMemoryBase, Entry.firstOffset,
    stampPageNumber_val h]
  omega

/-- The rows and touched bytes of a STAMP lie in its page. -/
theorem stampDestination_lt {e : Entry} (h : e.stampInRange) {i n : Nat} (hi : i < e.unclippedHeight)
    (hn : n < e.destinationBytes) : 8 * (e.row + i) + e.column / 8 + n < 160 := by
  obtain ⟨-, hWidth, hHeight, hColumn, hRow⟩ := h
  unfold Entry.unclippedHeight at hi
  unfold Entry.destinationBytes Entry.firstOffset Entry.unclippedWidth at hn
  omega

theorem pageOf_eq_some_iff (a : Nat) (p : Fin 4) :
    pageOf a = some p ↔ 0x0C00 + 160 * p.val ≤ a ∧ a < 0x0C00 + 160 * p.val + 160 := by
  unfold pageOf pageMemoryBase mappedEnd
  split_ifs with h
  · rw [Option.some_inj, Fin.ext_iff, Fin.val_ofNat]
    omega
  · simp only [false_iff]
    omega

theorem pageOf_stampDestination {e : Entry} (h : e.stampInRange) {i n : Nat}
    (hi : i < e.unclippedHeight) (hn : n < e.destinationBytes) :
    pageOf (e.stampDestination i n) = some e.stampPageNumber := by
  have hLt := stampDestination_lt h hi hn
  rw [pageOf_eq_some_iff, stampDestination_eq h.1, stampPageNumber_val h.1]
  omega

/-- Settles O40: the last byte of each range decides, and the rows of a STAMP stay in its page. -/
theorem checksPassOnlyMappedRanges : Obligations.ChecksPassOnlyMappedRanges := by
  intro e
  refine ⟨?_, ?_, fun hCheck i n hi hn => ?_⟩
  · rw [checkCopy_eq_none_iff, and_assoc]
    refine and_congr_right fun hOne => and_congr_right fun _ => ?_
    rw [mapped_copySource_iff hOne, mapped_copyDestination_iff hOne]
    exact ⟨fun h k hk => ⟨h.1 k hk, h.2 k hk⟩,
      fun h => ⟨fun k hk => (h k hk).1, fun k hk => (h k hk).2⟩⟩
  · rw [checkStamp_eq_none_iff]
    constructor
    · rintro ⟨hRange, hLast⟩
      obtain ⟨hPage, hWidth, hHeight, hColumn, hRow⟩ := id hRange
      exact ⟨hPage, hWidth, hHeight, hColumn, hRow, (mapped_stampLastSource_iff hRange).mp hLast⟩
    · rintro ⟨hPage, hWidth, hHeight, hColumn, hRow, hAll⟩
      have hRange : e.stampInRange := ⟨hPage, hWidth, hHeight, hColumn, hRow⟩
      exact ⟨hRange, (mapped_stampLastSource_iff hRange).mpr hAll⟩
  · have hRange := ((checkStamp_eq_none_iff e).mp hCheck).1
    exact ⟨stampDestination_eq hRange.1 i n, e.stampPageNumber,
      pageOf_stampDestination hRange hi (Nat.lt_succ_of_le hn), stampPageNumber_val hRange.1⟩

/-! ## The pages touched -/

/-- Settles O41: a rising range meets a page where its ends allow it, and a fixed destination where it
stands. -/
theorem touchedPagesAreThoseWritten : Obligations.TouchedPagesAreThoseWritten := by
  intro e p
  refine ⟨fun hKind hCheck => ?_, fun hKind hCheck => ?_⟩
  · obtain ⟨⟨hOne, -⟩, -⟩ := (checkCopy_eq_none_iff e).mp hCheck
    have hCount : e.count = e.c.toNat := rfl
    simp only [Entry.touches, hKind, Entry.copyDestination, pageBase, pageMemoryBase, Bool.and_eq_true]
    by_cases hFixed : e.dstFixed = true
    · simp only [decide_eq_true_eq, if_pos hFixed, if_pos (show e.flags.getLsbD 3 = true from hFixed)]
      exact ⟨fun h => ⟨0, _, by omega, rfl, h.2, h.1⟩, fun ⟨k, a, _, ha, h⟩ => ha ▸ h.symm⟩
    · simp only [decide_eq_true_eq, if_neg hFixed,
        if_neg (show ¬ e.flags.getLsbD 3 = true from hFixed)]
      constructor
      · intro h
        exact ⟨0xC00 + 160 * p.val - e.b.toNat, _, by omega, rfl, by omega, by omega⟩
      · rintro ⟨k, a, hk, rfl, h⟩
        omega
  · have hRange := ((checkStamp_eq_none_iff e).mp hCheck).1
    simp only [Entry.touches, hKind, decide_eq_true_eq, Fin.ext_iff, stampPageNumber_val hRange.1]
    exact eq_comm

/-! ## The bits of a STAMP -/

/-- A bit outside the mask stays, and one inside is what the operator makes of it (R78, Table 4-5). -/
theorem combine_getLsbD (operator : StampOperator) (old mask bits : Byte) (i : Nat) (h : i < 8) :
    (operator.combine old mask bits).getLsbD i =
      if mask.getLsbD i then
        match operator with
        | .replace => bits.getLsbD i
        | .set => old.getLsbD i || bits.getLsbD i
        | .clear => old.getLsbD i && !bits.getLsbD i
        | .toggle => old.getLsbD i ^^ bits.getLsbD i
      else old.getLsbD i := by
  cases operator <;>
    simp only [StampOperator.combine, BitVec.getLsbD_or, BitVec.getLsbD_and, BitVec.getLsbD_xor,
      BitVec.getLsbD_not, h, decide_true, Bool.true_and] <;>
    cases mask.getLsbD i <;> simp

theorem stampMask_getLsbD (e : Entry) (n : Nat) {i : Nat} (h : i < 8) :
    (e.stampMask n).getLsbD i =
      decide (e.column ≤ columnOfBit (e.firstOffset + n) i ∧
        columnOfBit (e.firstOffset + n) i < e.column + e.unclippedWidth) := by
  rw [Entry.stampMask, getLsbD_ofBits _ h]
  simp only [Bool.decide_and]

theorem stampBits_getLsbD (e : Entry) (buffer : List Byte) (n : Nat) {i : Nat} (h : i < 8) :
    (e.stampBits buffer n).getLsbD i = rowBit buffer (columnOfBit (e.firstOffset + n) i - e.column) := by
  rw [Entry.stampBits, getLsbD_ofBits _ h]

/-- Settles O39: the mask is the columns of the STAMP, and the operator its two flag bits. -/
theorem aStampChangesOnlyItsColumns : Obligations.AStampChangesOnlyItsColumns := by
  intro e old buffer n i hi
  dsimp only
  rw [combine_getLsbD _ _ _ _ i hi, stampMask_getLsbD e n hi, stampBits_getLsbD e buffer n hi]
  simp only [decide_eq_true_eq]
  refine if_congr Iff.rfl ?_ rfl
  simp only [Entry.operator]
  cases e.flags.getLsbD 5 <;> cases e.flags.getLsbD 4 <;> rfl

/-! ## The fault of the first failing check -/

theorem checkCopy_of_count {e : Entry} (h : e.c.toNat = 0 ∨ 4096 < e.c.toNat) :
    e.checkCopy = some .parameter :=
  if_pos h

theorem checkCopy_of_source {e : Entry} (hOne : 1 ≤ e.count) (hMax : e.count ≤ 4096)
    (h : ∃ k, k < e.count ∧ 0x0E80 ≤ e.copySource k) : e.checkCopy = some .sourceRange := by
  have hSource : mapped (e.copySource (e.count - 1)) = false := by
    rw [Bool.eq_false_iff, Ne, mapped_copySource_iff hOne]
    obtain ⟨k, hk, hHigh⟩ := h
    exact fun hAll => absurd (hAll k hk) (Nat.not_lt.mpr hHigh)
  rw [Entry.checkCopy, if_neg (by omega), if_pos (by simp [hSource])]

theorem checkCopy_of_destination {e : Entry} (hOne : 1 ≤ e.count) (hMax : e.count ≤ 4096)
    (hSource : ∀ k, k < e.count → e.copySource k < 0x0E80)
    (h : ∃ k, k < e.count ∧ 0x0E80 ≤ e.copyDestination k) : e.checkCopy = some .destRange := by
  have hDestination : mapped (e.copyDestination (e.count - 1)) = false := by
    rw [Bool.eq_false_iff, Ne, mapped_copyDestination_iff hOne]
    obtain ⟨k, hk, hHigh⟩ := h
    exact fun hAll => absurd (hAll k hk) (Nat.not_lt.mpr hHigh)
  rw [Entry.checkCopy, if_neg (by omega), if_neg (by simp [(mapped_copySource_iff hOne).mpr hSource]),
    if_pos (by simp [hDestination])]

/-- A take whose check fails faults with nothing done (R41). -/
theorem exec_takeCommand_of_fault {s : State} {e : Entry} {rest : List Entry}
    (hQueue : s.queue = e :: rest) (hIdle : s.engine.state = .idle) {f : Status}
    (hCheck : e.check = some f) : exec e.kind.takeCommand s =
      .next (endsInFault ⟨e.tag, e.kind, f, 0, false, false⟩ (taken e rest s)) := by
  rw [exec_takeCommand, takeAnd_eq hIdle hQueue, hCheck]
  exact congrArg Host.Outcome.next (faultWith_eq (c := Current.ofEntry e) rfl f)

/-- A take whose checks pass disposes of its entry (R40). -/
theorem exec_takeCommand_of_pass {s : State} {e : Entry} {rest : List Entry}
    (hQueue : s.queue = e :: rest) (hIdle : s.engine.state = .idle) (hCheck : e.check = none) :
    exec e.kind.takeCommand s = .next (disposal e.kind e (taken e rest s)) := by
  rw [exec_takeCommand, takeAnd_eq hIdle hQueue, hCheck]

/-- Settles O11: a failing check faults the entry taken, and the checks fail in the order of the stages. -/
theorem aFailedCheckFaultsAtTheTake : Obligations.AFailedCheckFaultsAtTheTake := by
  intro e
  refine ⟨fun s rest hQueue hIdle f hCheck => exec_takeCommand_of_fault hQueue hIdle hCheck,
    fun hKind source destination hSource hDestination => ?_,
    fun hKind page stride width height hPage hStride hWidth hHeight => ?_,
    fun h => by simp only [Entry.check, h, Entry.checkPresent],
    fun h => by simp only [Entry.check, h, Entry.checkZone],
    fun h => by simp only [Entry.check, h, Entry.checkWait], fun h => by simp only [Entry.check, h]⟩
  · have hCheck : e.check = e.checkCopy := by simp only [Entry.check, hKind]
    obtain rfl : source = e.copySource := funext hSource
    obtain rfl : destination = e.copyDestination := funext hDestination
    rw [hCheck]
    refine ⟨checkCopy_of_count, fun hOne hMax => ⟨checkCopy_of_source hOne hMax, fun hAll =>
      ⟨checkCopy_of_destination hOne hMax hAll, fun hAll' => (checkCopy_eq_none_iff e).mpr
        ⟨⟨hOne, hMax⟩, (mapped_copySource_iff hOne).mpr hAll,
          (mapped_copyDestination_iff hOne).mpr hAll'⟩⟩⟩⟩
  · have hCheck : e.check = e.checkStamp := by simp only [Entry.check, hKind]
    subst hPage hStride hWidth hHeight
    rw [hCheck]
    refine ⟨fun h => if_pos h, fun hp hw hw' hh hh' hc hr => ?_⟩
    have hRange : e.stampInRange := ⟨hp, ⟨hw, hw'⟩, ⟨hh, hh'⟩, hc, hr⟩
    rw [checkStamp_of_in_range hRange]
    refine ⟨fun ⟨i, m, hi, hm, hHigh⟩ => if_neg fun hLast => ?_, fun hAll =>
      if_pos ((mapped_stampLastSource_iff hRange).mpr hAll)⟩
    exact absurd ((mapped_stampLastSource_iff hRange).mp hLast i m hi hm) (Nat.not_lt.mpr hHigh)

/-! ## A command inside its work -/

/-- A COPY or STAMP that has passed its checks and stands inside its work (R38, R68, R79). -/
structure Current.InWork (c : Current) : Prop where
  drawing : c.entry.kind = .copy ∨ c.entry.kind = .stamp
  check : c.entry.check = none
  copy : c.entry.kind = .copy → c.progress < c.entry.count
  row : c.entry.kind = .stamp → c.progress < c.entry.unclippedHeight
  reading : c.entry.kind = .stamp → c.phase = .reading → c.byteIndex < c.entry.sourceBytes
  writing : c.entry.kind = .stamp → c.phase = .writing → c.byteIndex < c.entry.destinationBytes

/-- A command that has done nothing yet (R38). -/
structure Current.Fresh (c : Current) : Prop where
  progress : c.progress = 0
  byteIndex : c.byteIndex = 0
  phase : c.phase = .reading
  copyByte : c.copyByte = none

theorem fresh_ofEntry (e : Entry) : (Current.ofEntry e).Fresh := ⟨rfl, rfl, rfl, rfl⟩

theorem checkCopy_of_check {e : Entry} (h : e.check = none) (hKind : e.kind = .copy) :
    e.checkCopy = none := by
  simpa only [Entry.check, hKind] using h

theorem checkStamp_of_check {e : Entry} (h : e.check = none) (hKind : e.kind = .stamp) :
    e.checkStamp = none := by
  simpa only [Entry.check, hKind] using h

theorem stampInRange_of_check {e : Entry} (h : e.check = none) (hKind : e.kind = .stamp) :
    e.stampInRange :=
  ((checkStamp_eq_none_iff e).mp (checkStamp_of_check h hKind)).1

theorem unclippedHeight_pos {e : Entry} (h : e.stampInRange) : 0 < e.unclippedHeight := by
  obtain ⟨-, -, hHeight, -, hRow⟩ := h
  unfold Entry.unclippedHeight
  omega

theorem Current.Fresh.inWork {c : Current} (h : c.Fresh)
    (hDrawing : c.entry.kind = .copy ∨ c.entry.kind = .stamp) (hCheck : c.entry.check = none) :
    c.InWork where
  drawing := hDrawing
  check := hCheck
  copy hKind := by
    have := ((checkCopy_eq_none_iff _).mp (checkCopy_of_check hCheck hKind)).1.1
    rw [h.progress]
    exact this
  row hKind := by
    rw [h.progress]
    exact unclippedHeight_pos (stampInRange_of_check hCheck hKind)
  reading _ _ := by
    rw [h.byteIndex]
    exact Nat.succ_pos _
  writing _ hPhase := by
    rw [h.phase] at hPhase
    cases hPhase

/-- A command inside its work has a next access, and it is for mapped bytes (R6, R66, R75, R77). -/
theorem Current.InWork.nextAccess {c : Current} (h : c.InWork) :
    ∃ a, c.nextAccess = some a ∧ ∀ x ∈ a.addresses, mapped x = true := by
  unfold Current.nextAccess
  rcases h.drawing with hKind | hKind <;> rw [hKind]
  · have hCheck := checkCopy_of_check h.check hKind
    obtain ⟨⟨hOne, -⟩, hSource, hDestination⟩ := (checkCopy_eq_none_iff _).mp hCheck
    have hProgress := h.copy hKind
    have hFrom := (mapped_iff _).mpr ((mapped_copySource_iff hOne).mp hSource _ hProgress)
    have hTo := (mapped_iff _).mpr ((mapped_copyDestination_iff hOne).mp hDestination _ hProgress)
    cases c.copyByte with
    | none =>
      refine ⟨_, rfl, fun x hx => ?_⟩
      simp only [EngineAccess.addresses, List.mem_cons, List.not_mem_nil, or_false] at hx
      rcases hx with rfl | rfl
      · exact hFrom
      · exact hTo
    | some v =>
      refine ⟨_, rfl, fun x hx => ?_⟩
      obtain rfl := List.mem_singleton.mp hx
      exact hTo
  · have hRange := stampInRange_of_check h.check hKind
    have hLast := ((checkStamp_eq_none_iff _).mp (checkStamp_of_check h.check hKind)).2
    have hRow := h.row hKind
    cases hPhase : c.phase with
    | reading =>
      refine ⟨_, rfl, fun x hx => ?_⟩
      obtain rfl := List.mem_singleton.mp hx
      have hByte := h.reading hKind hPhase
      obtain ⟨-, hWidth, -, hColumn, -⟩ := id hRange
      refine (mapped_iff _).mpr ((mapped_stampLastSource_iff hRange).mp hLast _ _ ?_ ?_)
      · unfold Entry.unclippedHeight at hRow
        omega
      · unfold Entry.sourceBytes Entry.unclippedWidth at hByte
        omega
    | writing =>
      refine ⟨_, rfl, fun x hx => ?_⟩
      obtain rfl := List.mem_singleton.mp hx
      have hLt := stampDestination_lt hRange hRow (h.writing hKind hPhase)
      rw [mapped_iff, stampDestination_eq hRange.1]
      have hPage := hRange.1
      omega

end Sys2Proof.Machine

namespace Sys2Proof.Machine

/-! # Commands in a part that has nothing left over

A host access in a ready part, and an event in a settled one, act on the state as it stands. -/

/-- An access in a ready part has its effect on the state as it stands. -/
theorem exec_access_of_ready {s : State} (h : Ready s) {c : Instr} {effect : State → State}
    (hc : exec c s = .next (onBus effect s)) : exec c s = .next (effect s) := by
  rw [hc, onBus_of_ready h]

/-- An event of the scan or of a timer acts on a settled part as it stands. -/
theorem exec_timed_of_settled {s : State} (h : Settled s) {c : Instr} {event : State → State}
    (hc : role c = .timed event) : exec c s = .next (event s) := by
  rw [exec_eq_role, hc]
  exact congrArg Host.Outcome.next (onEvent_of_settled h event)

/-- The end of a grant acts on a settled part as it stands. -/
theorem exec_grantEnd_of_settled {s : State} (h : Settled s) {c : Instr} {ends : State → State}
    (hc : role c = .grantEnd ends) : exec c s = .next (ends s) := by
  rw [exec_eq_role, hc]
  exact congrArg Host.Outcome.next (onEvent_of_settled h ends)

theorem refuse_eq (s : State) : refuse s = withRefused s := rfl

/-! ## The engine requests -/

theorem pauseEngine_of_requested {s : State} (h : s.engine.pauseRequested = true) :
    pauseEngine s = withRefused s := by
  rw [pauseEngine, if_pos h, refuse_eq]

/-- Settles O17, state by state. -/
theorem pauseInEveryEngineState : Obligations.PauseInEveryEngineState := by
  intro s h
  have hExec : exec .pause s = .next (pauseEngine s) := exec_access_of_ready h rfl
  rw [hExec]
  refine ⟨fun hPause => by rw [pauseEngine_of_requested hPause], fun hPause => ?_⟩
  rw [pauseEngine, if_neg (by simp [hPause])]
  refine ⟨?_, ?_, fun hState => by rw [hState]; rfl⟩
  · rintro (hState | hState) <;> rw [hState] <;> rfl
  · rintro (hState | hState | hState | hState | hState) <;> rw [hState] <;> rfl

theorem resumeEngine_of_paused {s : State} (h : s.engine.state = .paused) :
    resumeEngine s = leavePaused s := by
  rw [resumeEngine, h]

theorem resumeEngine_of_not_paused {s : State} (h : s.engine.state ≠ .paused) :
    resumeEngine s =
      if s.engine.pauseRequested then setPauseRequested false s else withRefused s := by
  unfold resumeEngine
  split
  · rename_i hState; exact absurd hState h
  all_goals rfl

theorem continueEngine_of_not_halted {s : State} (h : s.engine.state ≠ .halted) :
    continueEngine s = withRefused s := by
  unfold continueEngine
  split
  · rename_i hState; exact absurd hState h
  all_goals rfl

/-- Settles O18. -/
theorem resumeAndContinueLeaveTheirStates : Obligations.ResumeAndContinueLeaveTheirStates := by
  intro s h
  have hResume : exec .resume s = .next (resumeEngine s) := exec_access_of_ready h rfl
  have hContinue : exec .continueHalted s = .next (continueEngine s) := exec_access_of_ready h rfl
  rw [hResume, hContinue]
  refine ⟨fun hState hCurrent => ?_, fun hState hPause => ?_, fun hState hPause => ?_,
    fun hState hPause => ?_, fun hState hPause => ?_, fun hState => ?_⟩
  · rw [resumeEngine_of_paused hState, leavePaused, hCurrent]
    rfl
  · rw [resumeEngine_of_not_paused hState, if_pos hPause]
    rfl
  · rw [resumeEngine_of_not_paused hState, if_neg (by simp [hPause])]
  · rw [continueEngine, hState]
    exact congrArg Host.Outcome.next (if_pos hPause)
  · rw [continueEngine, hState]
    exact congrArg Host.Outcome.next (if_neg (by simp [hPause]))
  · rw [continueEngine_of_not_halted hState]

/-! ## ABORT -/

theorem recordDue_aborted (e : Entry) : recordDue e .aborted = true := by
  simp [recordDue]

/-- An ABORTED ending always leaves its record (R50). -/
theorem complete_aborted {s : State} {c : Current} (h : s.engine.current = some c) (progress : Nat)
    (clipped held : Bool) : complete .aborted progress clipped held s =
      endsNormally true ⟨c.entry.tag, c.entry.kind, .aborted, progress, clipped, held⟩ s := by
  rw [complete_eq h, recordDue_aborted]

theorem abortCommand_of_running {s : State} {c : Current} (hState : s.engine.state = .running)
    (hCurrent : s.engine.current = some c) : abortCommand s = abortRunning c s := by
  rw [abortCommand, hState, hCurrent]

/-- The byte or row of a running command is in progress (R72, R81). -/
theorem drawingInProgress_iff (c : Current) (s : State) : drawingInProgress c s = true ↔
    (∃ access, s.arbiter.grant = some (.engine ⟨access, false⟩)) ∨
      (c.entry.kind = .copy ∧ ∃ v, c.copyByte = some v) ∨
      (c.entry.kind = .stamp ∧ (c.phase = .writing ∨ 0 < c.byteIndex)) := by
  unfold drawingInProgress
  rw [Bool.or_eq_true]
  refine or_congr ?_ ?_
  · rcases s.arbiter.grant with _ | ⟨r, p⟩ | p | ⟨access, dropped⟩ <;> simp
  · cases hKind : c.entry.kind <;> simp [Option.isSome_iff_exists]

/-- Settles O20. -/
theorem abortOfARunningCommand : Obligations.AbortOfARunningCommand := by
  intro s c hCurrent hState h
  have hExec : exec .abort s = .next (abortCommand s) := exec_access_of_ready h rfl
  rw [hExec, abortCommand_of_running hState hCurrent, abortRunning]
  refine ⟨fun hNoted => by rw [if_pos hNoted, refuse_eq], fun hNoted hBegun => ?_,
    fun hNoted hGrant hCopy hStamp => ?_⟩
  · rw [if_neg (by simp [hNoted]), if_pos ((drawingInProgress_iff c s).mpr hBegun)]
    rfl
  · have hBetween : drawingInProgress c s ≠ true := by
      rw [Ne, drawingInProgress_iff]
      rintro (⟨access, hAccess⟩ | ⟨hKind, v, hByte⟩ | ⟨hKind, hPhase | hIndex⟩)
      · exact hGrant access hAccess
      · rw [hCopy hKind] at hByte
        cases hByte
      · rw [(hStamp hKind).1] at hPhase
        cases hPhase
      · rw [(hStamp hKind).2] at hIndex
        cases hIndex
    rw [if_neg (by simp [hNoted]), if_neg hBetween, complete_aborted (by exact hCurrent)]
    rfl

/-- Settles O21, state by state. -/
theorem abortOutsideRunning : Obligations.AbortOutsideRunning := by
  intro s h
  have hExec : exec .abort s = .next (abortCommand s) := exec_access_of_ready h rfl
  rw [hExec]
  refine ⟨fun c hCurrent hState => ?_, fun c hCurrent hState => ?_,
    fun c hCurrent hState hKind => ?_, fun c hCurrent hState hKind => ?_, ?_⟩
  · rw [← complete_aborted hCurrent, abortCommand, hState, hCurrent]
  · rw [abortCommand, hState, hCurrent]
    exact congrArg Host.Outcome.next (complete_aborted (s := setPauseRequested true s) hCurrent _ _ _)
  · have hAbort : abortCommand s = complete .aborted c.progress false false s := by
      simp only [abortCommand, hState, hCurrent, hKind]
    rw [hAbort, complete_aborted hCurrent, hKind]
  · have hAbort : abortCommand s = complete .aborted 0 false c.heldOnce s := by
      simp only [abortCommand, hState, hCurrent, hKind]
    rw [hAbort, complete_aborted hCurrent, hKind]
  · rintro (hState | hState | hState | hState | ⟨hState, hCurrent⟩)
    case inr.inr.inr.inr => rw [abortCommand, hState, hCurrent, refuse_eq]
    all_goals rw [abortCommand, hState, refuse_eq]

/-! ## ENGINE_RESET and POP -/

/-- Settles O22: at the arbiter, by what waits and what has its grant. -/
theorem engineResetDropsTheEnginesWork : Obligations.EngineResetDropsTheEnginesWork := by
  intro s h
  have hExec : exec .engineReset s = .next (resetEngine s) := exec_access_of_ready h rfl
  rw [hExec]
  refine congrArg Host.Outcome.next ?_
  have hDrop : s.arbiter.dropEngine = { s.arbiter with
      engineRequest := (match s.arbiter.engineRequest with
        | some ⟨.copyWrite d v, _⟩ => some ⟨.copyWrite d v, true⟩
        | _ => none)
      engineOwed := (match s.arbiter.engineRequest with
        | some ⟨.copyWrite _ _, _⟩ => s.arbiter.engineOwed
        | _ => false)
      grant := (match s.arbiter.grant with
        | some (.engine r) => some (.engine ⟨r.access, true⟩)
        | g => g) } := by
    simp only [Arbiter.dropEngine, Arbiter.mk.injEq, true_and]
    refine ⟨?_, ?_, ?_⟩
    · rcases s.arbiter.grant with _ | ⟨_, _⟩ | _ | _ <;> rfl
    · rcases s.arbiter.engineRequest with _ | ⟨_ | _ | _ | _, _⟩ <;> rfl
    · rcases s.arbiter.engineRequest with _ | ⟨_ | _ | _ | _, _⟩ <;> simp
  exact congrArg (fun b => { resetEngine s with arbiter := b }) hDrop

theorem popRecord_of_empty {s : State} (h : s.ring = []) : popRecord s = withRefused s := by
  rw [popRecord, h, refuse_eq]

/-- A waiting record stands exactly in STALLED and FAULT_PENDING (R36). -/
theorem popRecord_of_no_waiting {s : State} {r : Record} {rest : List Record} (hRing : s.ring = r :: rest)
    (hStalled : s.engine.state ≠ .stalled) (hPending : s.engine.state ≠ .faultPending) :
    popRecord s = { s with ring := rest } := by
  rw [popRecord, hRing]
  cases hState : s.engine.state <;> first | rfl | contradiction

/-- Settles O23. -/
theorem popRemovesTheHeadRecord : Obligations.PopRemovesTheHeadRecord := by
  intro s h hInv
  have hExec : exec .pop s = .next (popRecord s) := exec_access_of_ready h rfl
  rw [hExec]
  refine ⟨fun hRing => by rw [popRecord_of_empty hRing], fun r rest hRing =>
    ⟨fun hStalled hPending => ⟨?_, ?_, ?_, ?_⟩, fun w hWaiting hState => ?_, fun w hWaiting hState => ?_⟩⟩
  · rw [popRecord_of_no_waiting hRing hStalled hPending]
  · have hLength : s.ring.length ≤ 8 := hInv.2.2
    show (BitVec.ofNat 8 rest.length).toNat + 1 = (BitVec.ofNat 8 s.ring.length).toNat
    rw [hRing, List.length_cons] at *
    rw [BitVec.toNat_ofNat, BitVec.toNat_ofNat]
    omega
  · rintro rfl o hLow hHigh
    have : o.toNat = 0x13 ∨ o.toNat = 0x14 ∨ o.toNat = 0x15 ∨ o.toNat = 0x16 ∨ o.toNat = 0x17 ∨
      o.toNat = 0x18 := by omega
    unfold readRegister
    rcases this with ho | ho | ho | ho | ho | ho <;> rw [ho] <;> rfl
  · rintro n older rfl
    refine ⟨rfl, rfl, rfl, fun hProgress => ⟨?_, ?_⟩, ?_⟩
    · show (loByte (BitVec.ofNat 16 n.progress)).toNat = n.progress % 256
      simp only [loByte, BitVec.toNat_setWidth, BitVec.toNat_ofNat]
      omega
    · show (hiByte (BitVec.ofNat 16 n.progress)).toNat = n.progress / 256
      simp only [hiByte, BitVec.toNat_setWidth, BitVec.toNat_ushiftRight, BitVec.toNat_ofNat,
        Nat.shiftRight_eq_div_pow]
      omega
    · show n.info.toNat = _
      unfold Record.info
      cases n.clipped <;> cases n.held <;> rfl
  · rw [popRecord, hRing]
    simp only [hState, hWaiting]
    rfl
  · rw [popRecord, hRing]
    simp only [hState, hWaiting]
    rfl

/-- Settles O24: no arm of the two request registers takes the code. -/
theorem unassignedRequestsAreRefused : Obligations.UnassignedRequestsAreRefused := by
  intro s code h
  have hEngine : exec (.unassignedEngineRequest code) s = .next (engineRequest code s) :=
    exec_access_of_ready h rfl
  have hPanel : exec (.unassignedPanelRequest code) s = .next (panelRequest code s) :=
    exec_access_of_ready h rfl
  rw [hEngine, hPanel]
  constructor <;> intro hCode
  · unfold engineRequest
    split <;> first | rfl | omega
  · unfold panelRequest
    split <;> first | rfl | omega

end Sys2Proof.Machine

namespace Sys2Proof.Machine

/-! # Panel requests, settings and registers -/

/-! ## The panel requests -/

theorem powerOnPanel_of_off {s : State} (hState : s.panel.state = .off) (hSupply : s.supply.state = .ok) :
    powerOnPanel s = { s with
      panel := { s.panel with
        state := .charging
        showAfterCharge := false
        chargeTimer := some (2048 * 2 ^ s.panel.chargeTime.toNat) }
      irq := { s.irq with panel := true } } := by
  rw [powerOnPanel, if_pos ⟨hState, hSupply⟩]
  rfl

theorem powerOnPanel_of_refused {s : State} (h : s.panel.state ≠ .off ∨ s.supply.state = .low) :
    powerOnPanel s = withRefused s := by
  rw [powerOnPanel, if_neg, refuse_eq]
  rintro ⟨hState, hSupply⟩
  rcases h with h | h
  · exact h hState
  · rw [h] at hSupply
    cases hSupply

/-- Settles O25, state by state. -/
theorem panelRequestsInEveryPanelState : Obligations.PanelRequestsInEveryPanelState := by
  intro s h
  have hOn : exec .powerOn s = .next (powerOnPanel s) := exec_access_of_ready h rfl
  have hOff : exec .powerOff s = .next (powerOffPanel s) := exec_access_of_ready h rfl
  have hShow : exec .showPicture s = .next (requestShow s) := exec_access_of_ready h rfl
  have hBlank : exec .blankPicture s = .next (requestBlank s) := exec_access_of_ready h rfl
  rw [hOn, hOff, hShow, hBlank]
  refine ⟨fun hState hSupply => by rw [powerOnPanel_of_off hState hSupply],
    fun hRefused => by rw [powerOnPanel_of_refused hRefused], fun hState => ?_, ?_, ?_,
    fun hState => ?_, fun hState => ?_, fun hState => ?_, ?_⟩
  · rw [powerOffPanel, hState]
    exact congrArg Host.Outcome.next (enterDischarging_eq s)
  · rintro (hState | hState) <;> rw [powerOffPanel, hState] <;> rfl
  · rintro (hState | hState | hState) <;> rw [powerOffPanel, hState]
  · rw [requestShow, requestBlank, hState]
    exact ⟨rfl, rfl⟩
  · rw [requestShow, requestBlank, hState]
    exact ⟨rfl, rfl⟩
  · rw [requestShow, requestBlank, hState]
    exact ⟨rfl, rfl⟩
  · rintro (hState | hState | hState) <;> rw [requestShow, requestBlank, hState] <;> exact ⟨rfl, rfl⟩

/-! ## Settings -/

theorem setWidth_eq_ofNat_mod (n : Nat) (v : Byte) : v.setWidth n = BitVec.ofNat n (v.toNat % 2 ^ n) := by
  apply BitVec.eq_of_toNat_eq
  simp

theorem ushiftRight_setWidth_eq (n k : Nat) (v : Byte) :
    (v >>> k).setWidth n = BitVec.ofNat n (v.toNat / 2 ^ k) := by
  apply BitVec.eq_of_toNat_eq
  simp [Nat.shiftRight_eq_div_pow]

/-- The fields of SCAN_CONFIG (Table 10-3). -/
theorem scanConfigOf_eq (v : Byte) : scanConfigOf v =
    ⟨BitVec.ofNat 2 (v.toNat % 4), BitVec.ofNat 2 (v.toNat / 4 % 4), v.getLsbD 4⟩ := by
  rw [scanConfigOf, setWidth_eq_ofNat_mod, ushiftRight_setWidth_eq]
  congr 1
  apply BitVec.eq_of_toNat_eq
  simp

/-- The fields of BLINK_A and BLINK_B (Table 10-3). -/
theorem blinkSettingOf_eq (v : Byte) : blinkSettingOf v =
    ⟨BitVec.ofNat 4 (v.toNat % 16), BitVec.ofNat 4 (v.toNat / 16)⟩ := by
  rw [blinkSettingOf, setWidth_eq_ofNat_mod, ushiftRight_setWidth_eq]
  rfl

/-- Settles O26. -/
theorem settingWritesReachTheirCopies : Obligations.SettingWritesReachTheirCopies := by
  rintro s v h _ rfl _ rfl
  rw [← scanConfigOf_eq, ← blinkSettingOf_eq]
  have hScan : exec (.scanConfig v) s = .next (setScanConfig v s) := exec_access_of_ready h rfl
  have hBlinkA : exec (.blinkWrite .a v) s = .next (setBlink .a v s) := exec_access_of_ready h rfl
  have hBlinkB : exec (.blinkWrite .b v) s = .next (setBlink .b v s) := exec_access_of_ready h rfl
  have hSupply : exec (.supplyWrite v) s = .next (setSupplyEnable v s) := exec_access_of_ready h rfl
  rw [hScan, hBlinkA, hBlinkB, hSupply]
  refine ⟨fun hRuns => ?_, fun hRuns => ?_, fun hSame => ?_, fun hOther => ?_⟩
  · simp only [setScanConfig, setBlink, Blink.write, hRuns, if_true]
    exact ⟨rfl, rfl, rfl⟩
  · simp only [setScanConfig, setBlink, Blink.write, hRuns, Bool.false_eq_true, if_false]
    exact ⟨rfl, rfl, rfl⟩
  · rw [setSupplyEnable, if_pos hSame]
  · rw [setSupplyEnable, if_neg hOther]
    rfl

/-! ## The interrupt flags and the interrupt line -/

theorem and_not_eq_ite (a b : Bool) : (a && !b) = if b then false else a := by
  cases b <;> simp

theorem bitAt_getLsbD (k : Nat) (b : Bool) (i : Nat) :
    (bitAt k b).getLsbD i = (b && decide (i = k) && decide (i < 8)) := by
  cases b
  · simp [bitAt]
  · simp only [bitAt, if_true, BitVec.getLsbD_shiftLeft, BitVec.getLsbD_one, Bool.true_and]
    rw [Bool.eq_iff_iff]
    simp only [Bool.and_eq_true, Bool.not_eq_true', decide_eq_true_eq, decide_eq_false_iff_not]
    omega

/-- A byte differs from 0 exactly where one of its bits is set. -/
theorem byte_ne_zero_iff (x : Byte) : (x != 0#8) = true ↔ ∃ i, i < 8 ∧ x.getLsbD i = true := by
  rw [bne_iff_ne]
  constructor
  · intro h
    by_contra hNone
    push Not at hNone
    exact h (BitVec.eq_of_getLsbD_eq fun i hi => by simpa using hNone i hi)
  · rintro ⟨i, -, hBit⟩ rfl
    simp at hBit

theorem exists_lt_eight {p : Nat → Prop} : (∃ i, i < 8 ∧ p i) ↔
    p 0 ∨ p 1 ∨ p 2 ∨ p 3 ∨ p 4 ∨ p 5 ∨ p 6 ∨ p 7 := by
  constructor
  · rintro ⟨i, hi, h⟩
    interval_cases i <;> simp [h]
  · rintro (h | h | h | h | h | h | h | h) <;> exact ⟨_, by decide, h⟩

theorem ringFlag_iff (s : State) : ringFlag s = true ↔ s.ring ≠ [] := by
  simp [ringFlag]

theorem haltFlag_iff (s : State) :
    haltFlag s = true ↔ s.engine.state = .halted ∨ s.engine.state = .faultPending := by
  simp [haltFlag]

theorem idleFlag_iff (s : State) :
    idleFlag s = true ↔ s.engine.state = .idle ∧ s.engine.takeDue = false := by
  simp [idleFlag]

/-- The flags of IRQ_STATUS lo at their bits (Table 9-3). -/
theorem irqStatusLo_getLsbD (s : State) (i : Nat) : (irqStatusLo s).getLsbD i = true ↔
    (i = 0 ∧ s.ring ≠ []) ∨ (i = 1 ∧ s.spaceThreshold.toNat ≤ 16 - s.queue.length) ∨
      (i = 2 ∧ (s.engine.state = .halted ∨ s.engine.state = .faultPending)) ∨
      (i = 3 ∧ s.engine.state = .idle ∧ s.engine.takeDue = false) ∨
      (i = 4 ∧ s.irq.pair = true) ∨ (i = 5 ∧ s.irq.panel = true) ∨
      (i = 6 ∧ s.irq.supply = true) ∨ (i = 7 ∧ s.irq.access = true) := by
  rw [← ringFlag_iff, ← haltFlag_iff, ← idleFlag_iff, ← spaceFlag_iff]
  simp only [irqStatusLo, BitVec.getLsbD_or, bitAt_getLsbD, Bool.or_eq_true, Bool.and_eq_true,
    decide_eq_true_eq]
  constructor
  · rintro (((((((h | h) | h) | h) | h) | h) | h) | h) <;> simp [h]
  · rintro (⟨rfl, h⟩ | ⟨rfl, h⟩ | ⟨rfl, h⟩ | ⟨rfl, h⟩ | ⟨rfl, h⟩ | ⟨rfl, h⟩ | ⟨rfl, h⟩ | ⟨rfl, h⟩) <;>
      simp [h]

/-- The flags of IRQ_STATUS hi at their bits (Table 9-3). -/
theorem irqStatusHi_getLsbD (s : State) (i : Nat) : (irqStatusHi s).getLsbD i = true ↔
    (i = 0 ∧ s.irq.overrun = true) ∨ (i = 1 ∧ s.irq.reject = true) ∨
      (i = 2 ∧ s.irq.refused = true) := by
  simp only [irqStatusHi, BitVec.getLsbD_or, bitAt_getLsbD, Bool.or_eq_true, Bool.and_eq_true,
    decide_eq_true_eq]
  constructor
  · rintro ((h | h) | h) <;> simp [h]
  · rintro (⟨rfl, h⟩ | ⟨rfl, h⟩ | ⟨rfl, h⟩) <;> simp [h]

/-- Settles O27: the flags bit by bit; in a ready part no take is due, so that IDLE is the engine's
state. -/
theorem interruptFlagsAndTheInterruptLine : Obligations.InterruptFlagsAndTheInterruptLine := by
  intro s v
  refine ⟨by simp [nIrqDrivenLow], fun h => ?_⟩
  have hClear (byte : ByteSel) : exec (.irqStatusClear byte v) s = .next (clearIrq byte v s) :=
    exec_access_of_ready h rfl
  have hEnable (byte : ByteSel) : exec (.irqEnable byte v) s = .next (enableIrq byte v s) :=
    exec_access_of_ready h rfl
  have hTake : s.engine.takeDue = false := h.2.1
  rw [hClear, hClear, hEnable, hEnable]
  simp only [clearIrq, enableIrq, and_not_eq_ite, setWidth_eq_ofNat_mod 3 v]
  refine ⟨rfl, rfl, rfl, rfl, ?_⟩
  simp only [nIrqAsserted, Bool.or_eq_true, byte_ne_zero_iff, BitVec.getLsbD_and, Bool.and_eq_true,
    irqStatusLo_getLsbD, irqStatusHi_getLsbD, exists_lt_eight, BitVec.getLsbD_setWidth, hTake]
  simp [and_comm, or_assoc]

end Sys2Proof.Machine

namespace Sys2Proof.Machine

/-! # The host bus, the data port and the registers -/

/-! ## Bus cycles and commands (R161, R163) -/

theorem eq_ofNat_of_toNat {w n : Nat} {x : BitVec w} (h : x.toNat = n) : x = BitVec.ofNat w n := by
  rw [← h, BitVec.ofNat_toNat, BitVec.setWidth_eq]

theorem engineRequestCommand_write (v : Byte) : (engineRequestCommand v).wellFormed = true ∧
    busWrite (engineRequestCommand v) = some (0x06#6, v) := by
  unfold engineRequestCommand
  split
  case h_8 =>
    refine ⟨?_, rfl⟩
    simp only [imp_false] at *
    simp only [Instr.wellFormed, Bool.or_eq_true, beq_iff_eq, decide_eq_true_eq]
    omega
  all_goals
    rename_i hv
    obtain rfl := eq_ofNat_of_toNat hv
    exact ⟨rfl, rfl⟩

theorem panelRequestCommand_write (v : Byte) : (panelRequestCommand v).wellFormed = true ∧
    busWrite (panelRequestCommand v) = some (0x23#6, v) := by
  unfold panelRequestCommand
  split
  case h_5 =>
    refine ⟨?_, rfl⟩
    simp only [imp_false] at *
    simp only [Instr.wellFormed, Bool.or_eq_true, beq_iff_eq, decide_eq_true_eq]
    omega
  all_goals
    rename_i hv
    obtain rfl := eq_ofNat_of_toNat hv
    exact ⟨rfl, rfl⟩

theorem toNat_of_mem_ownRowOffsets : ∀ p : BitVec 6, ownRowOffsets.contains p = true →
    p.toNat = 0x06 ∨ p.toNat = 0x07 ∨ p.toNat = 0x08 ∨ p.toNat = 0x1B ∨ p.toNat = 0x20 ∨
      p.toNat = 0x21 ∨ p.toNat = 0x23 ∨ p.toNat = 0x28 ∨ p.toNat = 0x2B ∨ p.toNat = 0x2D ∨
      p.toNat = 0x2E ∨ p.toNat = 0x2F ∨ p.toNat = 0x30 := by decide

/-- The command of a write is well formed and is that write (R163, Table 10-1). -/
theorem writeCommand_write (offset : BitVec 6) (v : Byte) :
    (writeCommand offset v).wellFormed = true ∧
      busWrite (writeCommand offset v) = some (offset, v) := by
  unfold writeCommand
  split
  case h_14 =>
    refine ⟨?_, rfl⟩
    simp only [imp_false] at *
    simp only [Instr.wellFormed, Bool.not_eq_true', Bool.eq_false_iff]
    intro hOwn
    have := toNat_of_mem_ownRowOffsets offset hOwn
    omega
  all_goals
    rename_i ho
    obtain rfl := eq_ofNat_of_toNat ho
  case h_1 => exact engineRequestCommand_write v
  case h_7 => exact panelRequestCommand_write v
  all_goals exact ⟨rfl, rfl⟩

/-- A well-formed command that is a host write is the command of its write. -/
theorem writeCommand_of_busWrite {c : Instr} {offset : BitVec 6} {v : Byte}
    (hWell : c.wellFormed = true) (h : busWrite c = some (offset, v)) : writeCommand offset v = c := by
  cases c with
  | unassignedEngineRequest code => cases h; exact Laws.engineRequestCommand_unassigned _ hWell
  | unassignedPanelRequest code => cases h; exact Laws.panelRequestCommand_unassigned _ hWell
  | registerWrite o v => cases h; exact Laws.writeCommand_plain _ _ hWell
  | blinkWrite group v => cases group <;> cases h <;> rfl
  | irqStatusClear byte v => cases byte <;> cases h <;> rfl
  | irqEnable byte v => cases byte <;> cases h <;> rfl
  | _ => cases h <;> rfl

theorem exec_writeCommand (offset : BitVec 6) (v : Byte) (s : State) :
    exec (writeCommand offset v) s = .next (hostWrite offset v s) :=
  exec_of_busWrite (writeCommand_write offset v).2 s

/-- Settles O7: the writes row by row, and the strobes case by case. -/
theorem busWritesAndCommandsAgree : Obligations.BusWritesAndCommandsAgree := by
  refine ⟨writeCommand_write, fun _ _ _ => writeCommand_of_busWrite, fun y s => ?_⟩
  refine ⟨fun hSelect => ?_, fun hSelect => ⟨fun hRead hWrite => ?_, fun hRead hFirst => ?_,
    fun hRead hWrite => ?_, fun hRead hWrite hFirst => ?_⟩, fun hNone => ?_, fun offset hSome => ?_,
    fun offset v hSome => ?_⟩
  · rw [BusCycle.access, hSelect]
  · rw [BusCycle.access, hSelect, hRead, hWrite]
  · rw [BusCycle.access, hSelect, hRead]
    cases hWrite : y.writeStrobe with
    | false => rfl
    | true => exact if_pos (hFirst.resolve_left (by simp [hWrite]))
  · rw [BusCycle.access, hSelect, hRead, hWrite]
  · rw [BusCycle.access, hSelect, hRead, hWrite]
    exact if_neg hFirst
  · rw [takeCycle, hNone]
  · rw [takeCycle, hSome]
  · rw [takeCycle, hSome]
    exact ⟨rfl, exec_writeCommand offset v s⟩

/-! ## The data port (R167 to R171) -/

theorem readPortData_of_mapped {s : State} (h : mapped s.port.pointer.toNat = true) :
    readPortData s = requestPort (.read s.port.pointer.toNat)
      (advancePointer ((beforePortGrant s).withPort { (beforePortGrant s).port with readValue := none })) :=
  if_pos h

theorem readPortData_of_unmapped {s : State} (h : ¬ mapped s.port.pointer.toNat = true) :
    readPortData s = latchAccess (advancePointer (s.withPort { s.port with readValue := some 0#8 })) :=
  if_neg h

theorem writePortData_of_mapped {s : State} (v : Byte) (h : mapped s.port.pointer.toNat = true) :
    writePortData v s = requestPort (.write s.port.pointer.toNat v) (advancePointer (beforePortGrant s)) :=
  if_pos h

theorem writePortData_of_unmapped {s : State} (v : Byte) (h : ¬ mapped s.port.pointer.toNat = true) :
    writePortData v s = latchAccess (advancePointer s) :=
  if_neg h

/-- A row latch that ends makes memory free and fixes the dots of its row or none. -/
theorem endRowRead_eq (r : RowRequest) (p : Fin 4) (s : State) : ∃ k,
    endRowRead r p s =
      arbitrate ((s.withCompositor k).withArbiter { s.arbiter with grant := none }) := by
  unfold endRowRead
  cases r.discarded
  · exact ⟨_, rfl⟩
  · exact ⟨s.compositor, rfl⟩

theorem settleEngine_of_not_owed {s : State} (h : s.arbiter.engineOwed = false) (n : Nat) :
    settleEngine n s = s := by
  cases n with
  | zero => rfl
  | succ n => rw [settleEngine, if_neg (by simp [h])]

theorem settleEngine_of_owed {s : State} (h : s.arbiter.engineOwed = true) (n : Nat) :
    settleEngine (n + 1) s = settleEngine n (endGrant s) := by
  rw [settleEngine, if_pos h]

/-- An engine request that is owed its grant, behind a row latch and with no data-port request ahead of it
(R9). -/
structure OwedBehindRow (b : Arbiter) : Prop where
  owed : b.engineOwed = true
  waits : ∃ e, b.engineRequest = some e
  noPort : b.portRequest = none
  row : ∃ r p, b.grant = some (.row r p)

/-- The row latch ahead ends: the engine is granted, or a second row latch stands ahead of it. -/
theorem OwedBehindRow.endGrant {s : State} (h : OwedBehindRow s.arbiter) :
    (s.arbiter.rowRequest = none → (endGrant s).arbiter.engineOwed = false ∧
      ∃ e, (endGrant s).arbiter.grant = some (.engine e)) ∧
    (s.arbiter.rowRequest ≠ none → OwedBehindRow (endGrant s).arbiter ∧
      (endGrant s).arbiter.rowRequest = none) := by
  obtain ⟨hOwed, ⟨e, hRequest⟩, hPort, r, p, hGrant⟩ := h
  have hEnd : Machine.endGrant s = endRowRead r p s := by simp only [Machine.endGrant, hGrant]
  obtain ⟨k, hRow⟩ := endRowRead_eq r p s
  rw [hEnd, hRow]
  constructor
  · intro hNone
    simp [arbitrate, hNone, hPort, hRequest]
  · intro hSome
    obtain ⟨r', hr'⟩ := Option.ne_none_iff_exists'.mp hSome
    simp only [arbitrate, State.withArbiter_arbiter, hr', State.withArbiter_pages]
    exact ⟨⟨hOwed, ⟨e, hRequest⟩, hPort, r', _, rfl⟩, trivial⟩

/-- Ending the row latch ahead of an owed engine request changes nothing for the next data-port grant. -/
theorem beforePortGrant_endGrant {s : State} (h : OwedBehindRow s.arbiter) :
    beforePortGrant s = beforePortGrant (endGrant s) := by
  have hFirst : beforePortGrant s = settleEngine 3 (endGrant s) := settleEngine_of_owed h.owed 3
  by_cases hRow : s.arbiter.rowRequest = none
  · have hDone := (h.endGrant.1 hRow).1
    rw [hFirst, beforePortGrant, settleEngine_of_not_owed hDone, settleEngine_of_not_owed hDone]
  · obtain ⟨hAgain, hNone⟩ := h.endGrant.2 hRow
    have hDone := (hAgain.endGrant.1 hNone).1
    rw [hFirst, beforePortGrant, settleEngine_of_owed hAgain.owed 2, settleBound,
      settleEngine_of_owed hAgain.owed 3, settleEngine_of_not_owed hDone,
      settleEngine_of_not_owed hDone]

/-- In a ready part the grant that an owed engine request waits behind is a row latch. -/
theorem owedBehindRow_of_ready {s : State} (h : Ready s) (hService : ServiceInv s)
    (hOwed : s.arbiter.engineOwed = true) : OwedBehindRow s.arbiter := by
  obtain ⟨hRequest, hPort, g, hGrant, hEngine⟩ := hService hOwed
  refine ⟨hOwed, Option.isSome_iff_exists.mp hRequest, hPort, ?_⟩
  cases g with
  | row r p => exact ⟨r, p, hGrant⟩
  | port p =>
    have hBusy : portBusy s = true := (portBusy_iff s).mpr ⟨p, .inr hGrant⟩
    have hNone := h.2.2
    rw [accessOutstanding, hBusy] at hNone
    cases hNone
  | engine e => cases hEngine

/-- The end of a row latch adds no access of the host's to the arbiter. -/
theorem ready_endRowRead {s : State} (h : Ready s) (r : RowRequest) (p : Fin 4) :
    Ready (endRowRead r p s) := by
  obtain ⟨k, hRow⟩ := endRowRead_eq r p s
  obtain ⟨b, hFrame⟩ := arbitrate_frame ((s.withCompositor k).withArbiter { s.arbiter with grant := none })
  have hServes := arbitrate_serves ((s.withCompositor k).withArbiter { s.arbiter with grant := none })
  obtain ⟨hReset, hTake, hOutstanding⟩ := h
  rw [accessOutstanding, Bool.or_eq_false_iff, Bool.eq_false_iff, Bool.eq_false_iff, Ne, Ne,
    portBusy_iff, droppedOutstanding_iff] at hOutstanding
  obtain ⟨hPort, hDropped⟩ := hOutstanding
  refine ⟨by rw [hRow, hFrame]; exact hReset, by rw [hRow, hFrame]; exact hTake, ?_⟩
  rw [accessOutstanding, Bool.or_eq_false_iff, Bool.eq_false_iff, Bool.eq_false_iff, Ne, Ne,
    portBusy_iff, droppedOutstanding_iff, hRow]
  constructor
  · rintro ⟨q, hq⟩
    exact hPort ⟨q, ((hServes.holdsPort q).mp hq).imp_right (nomatch ·)⟩
  · rintro ⟨e, he, hd⟩
    exact hDropped ⟨e, ((hServes.holdsEngine e).mp he).imp_right (nomatch ·), hd⟩

theorem endRowRead_port (r : RowRequest) (p : Fin 4) (s : State) :
    (endRowRead r p s).port = s.port := by
  obtain ⟨k, h⟩ := endRowRead_eq r p s
  rw [h, arbitrate_port]
  rfl

theorem advance_eq (step : PortStep) (pointer : Word) : step.advance pointer =
    BitVec.ofNat 16 ((pointer.toNat + (match step with | .one => 1 | .eight => 8)) % 65536) := by
  cases step <;> simp [PortStep.advance, ← BitVec.toNat_inj]

/-- Settles O28. -/
theorem portDataAccessesMemoryAndAdvances : Obligations.PortDataAccessesMemoryAndAdvances := by
  intro s v h hBusy hService next hNext
  have hAdvance : next = s.port.step.advance s.port.pointer :=
    hNext.trans (advance_eq _ _).symm
  subst hAdvance
  have hRead : exec .portDataRead s = .next (readPortData s) := exec_access_of_ready h rfl
  have hWrite : exec (.portDataWrite v) s = .next (writePortData v s) := exec_access_of_ready h rfl
  rw [hRead, hWrite]
  refine ⟨fun hPointer hOwed => ?_, fun hPointer hOwed => ?_, fun hPointer => ?_⟩
  · have hMapped := (mapped_iff _).mpr (Nat.lt_succ_of_le hPointer)
    rw [readPortData_of_mapped hMapped, writePortData_of_mapped v hMapped,
      beforePortGrant_of_not_owed hOwed, requestPort_eq (by exact hBusy), requestPort_eq (by exact hBusy)]
    exact ⟨rfl, rfl⟩
  · have hMapped := (mapped_iff _).mpr (Nat.lt_succ_of_le hPointer)
    have hBehind := owedBehindRow_of_ready h hService hOwed
    obtain ⟨r, p, hGrant⟩ := hBehind.row
    have hEnd : endGrant s = endRowRead r p s := by simp only [endGrant, hGrant]
    have hLatch : exec .rowLatch s = .next (endGrant s) := by
      rw [exec_grantEnd_of_settled h.2.1 rfl]
      simp only [rowGrantEnds, endGrant, hGrant]
    have hReady : Ready (endGrant s) := hEnd ▸ ready_endRowRead h r p
    have hPort : (endGrant s).port = s.port := hEnd ▸ endRowRead_port r p s
    have hMapped' : mapped (endGrant s).port.pointer.toNat = true := hPort ▸ hMapped
    refine ⟨endGrant s, hLatch, hBehind.endGrant.1, ?_, ?_⟩
    · have hRead' : exec .portDataRead (endGrant s) = .next (readPortData (endGrant s)) :=
        exec_access_of_ready hReady rfl
      rw [hRead', readPortData_of_mapped hMapped,
        readPortData_of_mapped hMapped', hPort, beforePortGrant_endGrant hBehind]
    · have hWrite' : exec (.portDataWrite v) (endGrant s) = .next (writePortData v (endGrant s)) :=
        exec_access_of_ready hReady rfl
      rw [hWrite', writePortData_of_mapped v hMapped, writePortData_of_mapped v hMapped', hPort,
        beforePortGrant_endGrant hBehind]
  · have hUnmapped : ¬ mapped s.port.pointer.toNat = true := by
      rw [mapped_iff]
      omega
    rw [readPortData_of_unmapped hUnmapped, writePortData_of_unmapped v hUnmapped]
    exact ⟨rfl, rfl⟩

/-! ## Registers -/

/-- Settles O29. -/
theorem frameCountReadsAreOneCount : Obligations.FrameCountReadsAreOneCount := by
  intro s h
  have hRead : exec .frameCountLoRead s = .next (readFrameCountLo s) := exec_access_of_ready h rfl
  refine ⟨_, loByte s.scanner.frameCount, hiByte s.scanner.frameCount, hRead, rfl, rfl, ?_⟩
  have hLt := s.scanner.frameCount.isLt
  simp only [hiByte, loByte, BitVec.toNat_setWidth, BitVec.toNat_ushiftRight,
    Nat.shiftRight_eq_div_pow]
  omega

/-- A read-only or unassigned offset disregards the write (R163). -/
theorem writeRegister_readOnly {o : BitVec 6} (v : Byte) (s : State)
    (h : o.toNat ≤ 0x05 ∨ (0x13 ≤ o.toNat ∧ o.toNat ≤ 0x1A) ∨ (0x1C ≤ o.toNat ∧ o.toNat ≤ 0x1F) ∨
      o.toNat = 0x22 ∨ o.toNat = 0x24 ∨ o.toNat = 0x27 ∨ 0x32 ≤ o.toNat) :
    writeRegister o v s = s := by
  unfold writeRegister
  split <;> first | rfl | omega

/-- Settles O30, offset by offset. -/
theorem registerWritesReplaceOneRegister : Obligations.RegisterWritesReplaceOneRegister := by
  intro s v h
  have hWrite (o : BitVec 6) : exec (.registerWrite o v) s = .next (writeRegister o v s) :=
    exec_access_of_ready h rfl
  have hWidth (n : Nat) : BitVec.ofNat n (v.toNat % 2 ^ n) = v.setWidth n :=
    (setWidth_eq_ofNat_mod n v).symm
  refine ⟨?_, ?_, ?_, hWrite _, hWrite _, hWrite _, ?_, fun o ho => ?_⟩
  · rintro g o (⟨rfl, rfl⟩ | ⟨rfl, rfl⟩ | ⟨rfl, rfl⟩ | ⟨rfl, rfl⟩ | ⟨rfl, rfl⟩ | ⟨rfl, rfl⟩ |
      ⟨rfl, rfl⟩ | ⟨rfl, rfl⟩ | ⟨rfl, rfl⟩ | ⟨rfl, rfl⟩)
    case inr.inl => rw [hWrite, show 128 = 2 ^ 7 from rfl, hWidth 7]; rfl
    all_goals exact hWrite _
  · rw [hWrite, show 4 = 2 ^ 2 from rfl, hWidth 2]; rfl
  · rw [hWrite, show 32 = 2 ^ 5 from rfl, hWidth 5]; rfl
  · rw [hWrite]
    show Host.Outcome.next (s.withPort { s.port with
      zoneIndex := Fin.ofNat 8 (v.setWidth 3).toNat, zoneActive := v.getLsbD 3 }) = _
    rw [BitVec.toNat_setWidth]
    rfl
  · rw [hWrite, writeRegister_readOnly v s ho]

end Sys2Proof.Machine

namespace Sys2Proof.Machine

/-! # Memory, the arbiter and the ends of grants -/

/-- Settles O31. -/
theorem aWriteChangesOneMappedByte : Obligations.AWriteChangesOneMappedByte := by
  rintro s a b v _ rfl
  refine ⟨fun hMapped => ?_, fun hNe => ?_, fun hUnmapped => ?_⟩
  · rw [byteAt, memoryRead_memoryWrite _ _ _ _ ((mapped_iff a).mpr hMapped), if_pos rfl]
    rfl
  · unfold byteAt
    by_cases hMapped : mapped a = true
    · rw [memoryRead_memoryWrite _ _ _ _ hMapped, if_neg (Ne.symm hNe)]
    · rw [memoryWrite, if_neg hMapped]
  · rw [memoryWrite, if_neg (by rw [mapped_iff]; omega)]

/-- Settles O32, client by client. -/
theorem theArbiterServesTheHighestPriority : Obligations.TheArbiterServesTheHighestPriority := by
  intro s
  refine ⟨fun hGrant => ?_, fun hGrant => ⟨fun r hRow => ?_, fun p hRow hPort => ?_,
    fun e hRow hPort hEngine => ?_, fun hRow hPort hEngine => ?_⟩⟩
  · obtain ⟨g, hg⟩ := Option.isSome_iff_exists.mp hGrant
    simp only [arbitrate, hg]
  · simp only [arbitrate, hGrant, hRow]
    rfl
  · simp only [arbitrate, hGrant, hRow, hPort]
    rfl
  · simp only [arbitrate, hGrant, hRow, hPort, hEngine]
    rfl
  · exact arbitrate_of_busy fun _ => ⟨hRow, hPort, hEngine⟩

/-! ## The row latch and the data port -/

theorem rowGrantEnds_of_grant {s : State} {r : RowRequest} {p : Fin 4}
    (h : s.arbiter.grant = some (.row r p)) : rowGrantEnds s = endRowRead r p s := by
  simp only [rowGrantEnds, h]

theorem portGrantEnds_of_grant {s : State} {p : PortAccess} (h : s.arbiter.grant = some (.port p)) :
    portGrantEnds s = endPortAccess p s := by
  simp only [portGrantEnds, h]

/-- Settles O33. -/
theorem aRowLatchFixesTheDotsOfItsRow : Obligations.ARowLatchFixesTheDotsOfItsRow := by
  intro s r p hGrant hSettled
  rw [exec_grantEnd_of_settled hSettled (c := .rowLatch) rfl, rowGrantEnds_of_grant hGrant, endRowRead]
  exact ⟨fun h => congrArg Host.Outcome.next (if_neg (by simp [h])),
    fun h => congrArg Host.Outcome.next (if_pos h)⟩

/-- Settles O34. -/
theorem aDataPortGrantReadsOrStoresOneByte : Obligations.ADataPortGrantReadsOrStoresOneByte := by
  intro s a v hSettled
  rw [exec_grantEnd_of_settled hSettled (c := .dataPortGrant) rfl]
  constructor <;> intro hGrant <;> rw [portGrantEnds_of_grant hGrant] <;> rfl

/-! ## The grants of the engine -/

theorem engineRequest_none_of_grant {s : State} (h : EngineAccessInv s) {e : EngineRequest}
    (hGrant : s.arbiter.grant = some (.engine e)) : s.arbiter.engineRequest = none := by
  cases hRequest : s.arbiter.engineRequest with
  | none => rfl
  | some x =>
    have hNone := h.1 (by rw [hRequest]; rfl)
    rw [hGrant] at hNone
    cases hNone

/-- A grant of a command that has not been dropped finds the engine RUNNING. -/
theorem running_of_grant {s : State} (h : EngineAccessInv s) {access : EngineAccess}
    (hGrant : s.arbiter.grant = some (.engine ⟨access, false⟩)) : s.engine.state = .running :=
  (h.2.2.1 _ hGrant rfl).1

/-- With its last grant ended the running engine asks for the next access of its command. -/
theorem arbitrate_raiseEngine_running {s : State} {c : Current} {access : EngineAccess}
    (hRequest : s.arbiter.engineRequest = none) (hGrant : s.arbiter.grant = none)
    (hState : s.engine.state = .running) (hCurrent : s.engine.current = some c)
    (hNext : c.nextAccess = some access) :
    arbitrate (raiseEngine s) =
      arbitrate { s with arbiter := { s.arbiter with engineRequest := some ⟨access, false⟩ } } := by
  rw [arbitrate_raiseEngine hRequest hGrant, nextRequest, if_pos hState, hCurrent]
  simp only [Option.bind_some, hNext, Option.map_some]

theorem copyReadEnds_of_grant {s : State} {a b : Nat} {dropped : Bool}
    (h : s.arbiter.grant = some (.engine ⟨.copyRead a b, dropped⟩)) :
    copyReadEnds s = endCopyRead a b dropped s := by
  simp only [copyReadEnds, h]

/-- Settles O35. -/
theorem aCopyReadRequestsTheWriteOfItsByte : Obligations.ACopyReadRequestsTheWriteOfItsByte := by
  intro s a b hSettled hInv
  rw [exec_grantEnd_of_settled hSettled (c := .copySourceRead) rfl]
  refine ⟨fun hGrant c hCurrent hKind => ?_, fun hGrant => ?_⟩
  · rw [copyReadEnds_of_grant hGrant]
    have hRequest := engineRequest_none_of_grant hInv hGrant
    have hState := running_of_grant hInv hGrant
    have hEnd : endCopyRead a b false s = arbitrate (raiseEngine
        (setCurrent { c with copyByte := some (byteAt s a) } (release s))) := by
      simp only [endCopyRead, release, State.withArbiter_engine, hCurrent, Bool.false_eq_true, if_false]
    rw [hEnd, arbitrate_raiseEngine_running
      (access := .copyWrite (c.entry.copyDestination c.progress) (byteAt s a))
      (by exact hRequest) rfl (by exact hState) rfl
      (by simp only [Current.nextAccess, hKind])]
    rfl
  · rw [copyReadEnds_of_grant hGrant]
    rfl

theorem copyWriteEnds_of_grant {s : State} {b : Nat} {v : Byte} {dropped : Bool}
    (h : s.arbiter.grant = some (.engine ⟨.copyWrite b v, dropped⟩)) :
    copyWriteEnds s = endCopyWrite b v dropped s := by
  simp only [copyWriteEnds, h]

theorem recordDue_done (e : Entry) (h : e.kind ≠ .mark) : recordDue e .done = e.notify := by
  have hMark : (e.kind == Kind.mark) = false := beq_false_of_ne h
  simp [recordDue, hMark, Status.isFault]

/-- Settles O36. -/
theorem aCopyWriteStoresOneByteAndGoesOn : Obligations.ACopyWriteStoresOneByteAndGoesOn := by
  intro s b v hSettled hInv
  rw [exec_grantEnd_of_settled hSettled (c := .copyDestinationWrite) rfl]
  refine ⟨fun hGrant c hCurrent hKind u hu => ?_, fun hGrant => ?_⟩
  · rw [copyWriteEnds_of_grant hGrant]
    have hMark : c.entry.kind ≠ .mark := by simp [hKind]
    have hState : s.engine.state = .running := running_of_grant hInv hGrant
    have hState : u.engine.state = .running := by rw [hu]; exact hState
    have hRequest : s.arbiter.engineRequest = none := engineRequest_none_of_grant hInv hGrant
    have hRequest : u.arbiter.engineRequest = none := by rw [hu]; exact hRequest
    have hCurrent' : u.engine.current = some { c with progress := c.progress + 1, copyByte := none } :=
      hu ▸ rfl
    have hEnd : endCopyWrite b v false s = arbitrate (
        if c.abortNoted then complete .aborted (c.progress + 1) false c.heldOnce u
        else if c.entry.c.toNat ≤ c.progress + 1 then
          complete .done (c.progress + 1) false c.heldOnce u
        else raiseEngine u) := by
      subst hu
      simp only [endCopyWrite, copyByteWritten, writeByte, release, State.withMemory_engine,
        State.withArbiter_engine, hCurrent, Bool.false_eq_true, if_false]
      rfl
    rw [hEnd]
    refine ⟨fun hNoted => ?_, fun hNoted hLast => ?_, fun hNoted hMore => ?_⟩
    · rw [if_pos hNoted, complete_aborted hCurrent', hKind]
    · rw [if_neg (by simp [hNoted]), if_pos hLast, complete_eq hCurrent', recordDue_done _ hMark, hKind]
      rfl
    · rw [if_neg (by simp [hNoted]), if_neg (Nat.not_le.mpr hMore),
        arbitrate_raiseEngine_running hRequest (by rw [hu]) hState hCurrent'
          (access := .copyRead (c.entry.copySource (c.progress + 1))
            (c.entry.copyDestination (c.progress + 1))) (by simp only [Current.nextAccess, hKind])]
      rfl
  · rw [copyWriteEnds_of_grant hGrant]
    have hEnd : endCopyWrite b v true s = arbitrate (raiseEngine (writeByte b v (release s))) := rfl
    have hRequest := engineRequest_none_of_grant hInv hGrant
    rw [hEnd, arbitrate_raiseEngine (by exact hRequest) rfl]
    rfl

theorem stampReadEnds_of_grant {s : State} {a : Nat} {dropped : Bool}
    (h : s.arbiter.grant = some (.engine ⟨.stampRead a, dropped⟩)) :
    stampReadEnds s = endStampRead a dropped s := by
  simp only [stampReadEnds, h]

theorem stampModifyEnds_of_grant {s : State} {b : Nat} {mask bits : Byte} {operator : StampOperator}
    {dropped : Bool} (h : s.arbiter.grant = some (.engine ⟨.stampModify b mask bits operator, dropped⟩)) :
    stampModifyEnds s = endStampModify b mask bits operator dropped s := by
  simp only [stampModifyEnds, h]

/-- The locked access of a running STAMP is an access of its write phase (R79). -/
theorem writing_of_stampModify {s : State} (h : EngineAccessInv s) {b : Nat} {mask bits : Byte}
    {operator : StampOperator}
    (hGrant : s.arbiter.grant = some (.engine ⟨.stampModify b mask bits operator, false⟩)) {c : Current}
    (hCurrent : s.engine.current = some c) (hKind : c.entry.kind = .stamp) : c.phase = .writing := by
  have hNext := (h.2.2.1 _ hGrant rfl).2
  rw [hCurrent, Option.bind_some] at hNext
  simp only [Current.nextAccess, hKind] at hNext
  cases hPhase : c.phase with
  | writing => rfl
  | reading => simp [hPhase] at hNext

/-- Settles O37. -/
theorem aStampReadFillsTheRowBuffer : Obligations.AStampReadFillsTheRowBuffer := by
  intro s a hSettled hInv
  rw [exec_grantEnd_of_settled hSettled (c := .stampSourceRead) rfl]
  refine ⟨?_, fun hGrant => ?_⟩
  · rintro hGrant c hCurrent hKind width rfl buffer rfl
    rw [stampReadEnds_of_grant hGrant]
    have hRequest := engineRequest_none_of_grant hInv hGrant
    have hState := running_of_grant hInv hGrant
    have hBytes : c.entry.sourceBytes =
        (min (loByte c.entry.c).toNat (64 - c.entry.d.toNat) - 1) / 8 + 1 := rfl
    have hEnd : endStampRead a false s = arbitrate (raiseEngine (setCurrent { c with
        rowBuffer := c.rowBuffer ++ [byteAt s a]
        phase := if decide (c.entry.sourceBytes ≤ c.byteIndex + 1) then .writing else .reading
        byteIndex := if decide (c.entry.sourceBytes ≤ c.byteIndex + 1) then 0 else c.byteIndex + 1 }
        (release s))) := by
      simp only [endStampRead, release, State.withArbiter_engine, hCurrent, Bool.false_eq_true, if_false]
    rw [hEnd]
    refine ⟨fun hMore => ?_, fun hLast hPage => ?_⟩
    · have hLast : decide (c.entry.sourceBytes ≤ c.byteIndex + 1) = false := by
        rw [decide_eq_false_iff_not, hBytes]
        omega
      rw [hLast, arbitrate_raiseEngine_running (by exact hRequest) rfl (by exact hState) rfl
        (access := .stampRead (c.entry.stampSource c.progress (c.byteIndex + 1)))
        (by simp only [Current.nextAccess, hKind, Bool.false_eq_true, if_false])]
      rfl
    · have hLast : decide (c.entry.sourceBytes ≤ c.byteIndex + 1) = true := by
        rw [decide_eq_true_iff, hBytes]
        omega
      rw [hLast, arbitrate_raiseEngine_running (by exact hRequest) rfl (by exact hState) rfl
        (access := .stampModify (c.entry.stampDestination c.progress 0) (c.entry.stampMask 0)
          (c.entry.stampBits (c.rowBuffer ++ [byteAt s a]) 0) c.entry.operator)
        (by simp only [Current.nextAccess, hKind, if_true]), stampDestination_eq hPage]
      rfl
  · rw [stampReadEnds_of_grant hGrant]
    have hEnd : endStampRead a true s = arbitrate (raiseEngine (release s)) := rfl
    have hRequest := engineRequest_none_of_grant hInv hGrant
    rw [hEnd, arbitrate_raiseEngine (by exact hRequest) rfl]
    rfl

/-- Settles O38. -/
theorem aStampWriteCombinesOneByteAndGoesOn : Obligations.AStampWriteCombinesOneByteAndGoesOn := by
  intro s b mask bits operator hSettled hInv u hu
  rw [exec_grantEnd_of_settled hSettled (c := .stampReadModifyWrite) rfl]
  refine ⟨?_, fun hGrant => ?_⟩
  · rintro hGrant c hCurrent hKind touched hTouched height hHeight e he
    rw [stampModifyEnds_of_grant hGrant]
    have hMark : e.entry.kind ≠ .mark := by simp [he, hKind]
    have hRequest : s.arbiter.engineRequest = none := engineRequest_none_of_grant hInv hGrant
    have hRequest : u.arbiter.engineRequest = none := by rw [hu]; exact hRequest
    have hGrant' : u.arbiter.grant = none := by rw [hu]
    have hState := running_of_grant hInv hGrant
    have hBytes : c.entry.destinationBytes = touched := hTouched ▸ rfl
    have hRows : c.entry.unclippedHeight = height := hHeight ▸ rfl
    have hEnd : endStampModify b mask bits operator false s = arbitrate (
        if c.byteIndex + 1 < touched then
          raiseEngine { u with engine := { s.engine with
            current := some { c with byteIndex := c.byteIndex + 1 } } }
        else if c.abortNoted then
          complete .aborted (c.progress + 1) c.clipped c.heldOnce
            { u with engine := { s.engine with current := some e } }
        else if height ≤ c.progress + 1 then
          complete .done (c.progress + 1) c.clipped c.heldOnce
            { u with engine := { s.engine with current := some e } }
        else raiseEngine { u with engine := { s.engine with current := some e } }) := by
      subst hu he
      rw [← hBytes, ← hRows]
      simp only [endStampModify, stampByteWritten, writeByte, release, State.withMemory_engine,
        State.withArbiter_engine, hCurrent, Bool.false_eq_true, if_false]
      rfl
    rw [hEnd]
    refine ⟨fun hMore hPage => ?_, fun hLast hNoted => ?_, fun hLast hNoted hRow => ?_,
      fun hLast hNoted hRow => ?_⟩
    · rw [if_pos hMore, arbitrate_raiseEngine_running (by exact hRequest) (by exact hGrant')
        (by exact hState) rfl
        (access := .stampModify (c.entry.stampDestination c.progress (c.byteIndex + 1))
          (c.entry.stampMask (c.byteIndex + 1)) (c.entry.stampBits c.rowBuffer (c.byteIndex + 1))
          c.entry.operator)
        (by simp only [Current.nextAccess, hKind, writing_of_stampModify hInv hGrant hCurrent hKind]),
        stampDestination_eq hPage]
      rfl
    · rw [if_neg (Nat.not_lt.mpr hLast), if_pos hNoted, complete_aborted rfl, he, hKind]
    · rw [if_neg (Nat.not_lt.mpr hLast), if_neg (by simp [hNoted]), if_pos hRow, complete_eq rfl,
        recordDue_done _ hMark, he, hKind]
      rfl
    · rw [if_neg (Nat.not_lt.mpr hLast), if_neg (by simp [hNoted]), if_neg (Nat.not_le.mpr hRow),
        arbitrate_raiseEngine_running (by exact hRequest) (by exact hGrant') (by exact hState) rfl
          (access := .stampRead (c.entry.stampSource (c.progress + 1) 0))
          (by simp only [Current.nextAccess, he, hKind])]
      rfl
  · rw [stampModifyEnds_of_grant hGrant]
    have hRequest := engineRequest_none_of_grant hInv hGrant
    have hEnd : endStampModify b mask bits operator true s = arbitrate (raiseEngine u) := by
      rw [hu]
      rfl
    rw [hEnd, arbitrate_raiseEngine (by rw [hu]; exact hRequest) (by rw [hu])]
    subst hu
    rfl

/-! ## The pins -/

/-- Settles O50, state by state. -/
theorem panelStatesFixTheDrive : Obligations.PanelStatesFixTheDrive := by
  intro s r c
  unfold biasDrive commonDrive segmentDrive scanRunning
  refine ⟨fun h => ?_, fun h => ?_, fun h => ?_, fun hRuns => ?_⟩
  · rw [h]; exact ⟨rfl, rfl, rfl⟩
  · rw [h]; exact ⟨rfl, rfl, rfl⟩
  · rw [h]; exact ⟨rfl, rfl, rfl⟩
  · cases h : s.panel.state <;> rw [h] at hRuns <;> simp_all [PanelState.scans]

end Sys2Proof.Machine

namespace Sys2Proof.Machine

/-! # The takes -/

/-- A take whose checks pass, named by its kind. -/
theorem exec_take_of_pass {s : State} {e : Entry} {rest : List Entry} {k : Kind}
    (hQueue : s.queue = e :: rest) (hIdle : s.engine.state = .idle) (hKind : e.kind = k)
    (hCheck : e.check = none) :
    exec k.takeCommand s = .next (disposal k e (taken e rest s)) :=
  hKind ▸ exec_takeCommand_of_pass hQueue hIdle hCheck

/-! ## COPY and STAMP -/

/-- A drawing that may begin begins (R40, R43). -/
theorem disposeDrawing_begins {s : State} {e : Entry} (rest : List Entry) (h : MayBegin e s) :
    disposeDrawing e (taken e rest s) = beginDrawing (taken e rest s) := by
  unfold disposeDrawing Entry.live
  split
  · rfl
  · rename_i hLive
    exact holdRule_begins (c := Current.ofEntry e) rfl (h.resolve_left hLive)

theorem disposeDrawing_not_live {e : Entry} (h : e.flags.getLsbD 1 = false) (s : State) :
    disposeDrawing e s = holdRule s :=
  if_neg (Bool.eq_false_iff.mp h)

/-- A drawing just taken begins with its first access. -/
theorem beginDrawing_taken {s : State} {e : Entry} (rest : List Entry) (h : ArbiterBusyInv s)
    (hKind : e.kind = .copy ∨ e.kind = .stamp) : beginDrawing (taken e rest s) =
      { taken e rest s with
        engine := engineBegins (Current.ofEntry e) (taken e rest s).engine
        arbiter := engineAsks (firstAccess e) s.arbiter } :=
  beginDrawing_eq (c := Current.ofEntry e) (by exact h) rfl hKind rfl rfl rfl rfl

/-- A STAMP whose checks pass is clipped where it passes the page's edge (R74). -/
theorem isClipped_eq {e : Entry} (h : e.stampInRange) : e.isClipped =
    decide (64 < e.d.toNat + (loByte e.c).toNat ∨ 20 < e.e.toNat + (hiByte e.c).toNat) := by
  obtain ⟨-, hWidth, hHeight, hColumn, hRow⟩ := h
  have hClipped : e.isClipped = true ↔
      e.unclippedWidth < e.width ∨ e.unclippedHeight < e.height := by simp [Entry.isClipped]
  rw [Bool.eq_iff_iff, hClipped, decide_eq_true_iff]
  unfold Entry.unclippedWidth Entry.unclippedHeight Entry.width Entry.height Entry.column Entry.row at *
  omega

/-- Settles O12. -/
theorem anAllowedDrawingBeginsAtItsTake : Obligations.AnAllowedDrawingBeginsAtItsTake := by
  intro s e rest hQueue hIdle hBusy hCheck hMay
  refine ⟨fun hKind => ?_, fun hKind => ?_⟩
  · have hTake := exec_take_of_pass hQueue hIdle hKind hCheck
    rw [show Instr.copy = Kind.copy.takeCommand from rfl, hTake, disposal,
      disposeDrawing_begins rest hMay, beginDrawing_taken rest hBusy (.inl hKind)]
    simp only [engineBegins, firstAccess, Current.ofEntry, hKind]
    rfl
  · have hTake := exec_take_of_pass hQueue hIdle hKind hCheck
    rw [show Instr.stamp = Kind.stamp.takeCommand from rfl, hTake, disposal,
      disposeDrawing_begins rest hMay, beginDrawing_taken rest hBusy (.inr hKind),
      ← isClipped_eq (stampInRange_of_check hCheck hKind)]
    simp only [engineBegins, firstAccess, Current.ofEntry, hKind, beq_self_eq_true, Bool.true_and]

/-- Settles O13. -/
theorem theHoldRuleHoldsOrFaultsADrawing : Obligations.TheHoldRuleHoldsOrFaultsADrawing := by
  intro s e rest hQueue hIdle hKind hCheck hLive
  have hTake : exec e.kind.takeCommand s = .next (holdRule (taken e rest s)) := by
    rw [exec_takeCommand_of_pass hQueue hIdle hCheck, ← disposeDrawing_not_live hLive]
    rcases hKind with hKind | hKind <;> rw [hKind] <;> rfl
  rw [hTake]
  refine ⟨fun q hPending hTouches => ?_, fun hPending hRuns hTouches => ?_⟩
  · have hRule : ¬ HoldRuleAllows (Current.ofEntry e).entry (taken e rest s) := by
      simp only [HoldRuleAllows, taken, hPending, Current.ofEntry]
      rintro ⟨hq, hShown⟩
      rcases hTouches with h | h <;> simp_all
    rw [holdRule_holds rfl hRule (by simp [taken, hPending]), hold_eq rfl]
    rfl
  · have hRule : ¬ HoldRuleAllows (Current.ofEntry e).entry (taken e rest s) := by
      simp only [HoldRuleAllows, taken, hPending, Current.ofEntry]
      rintro (h | h)
      · exact absurd (hRuns.symm.trans h) (by decide)
      · exact absurd (hTouches.symm.trans h) (by decide)
    rw [holdRule_faults rfl hRule hPending, faultWith_eq rfl]
    rfl

/-! ## PRESENT -/

/-- Table 5-1's DONE of a command that is no MARK is recorded under NOTIFY (R50). -/
theorem complete_done {s : State} {c : Current} (h : s.engine.current = some c) (hMark : c.entry.kind ≠ .mark)
    (progress : Nat) (clipped held : Bool) : complete .done progress clipped held s =
      endsNormally (c.entry.flags.getLsbD 0)
        ⟨c.entry.tag, c.entry.kind, .done, progress, clipped, held⟩ s := by
  rw [complete_eq h, recordDue_done _ hMark]
  rfl

theorem recordDue_noScan (e : Entry) (h : e.kind ≠ .mark) : recordDue e .noScan = e.notify := by
  unfold recordDue
  rw [beq_false_of_ne h]
  cases e.notify <;> rfl

theorem complete_noScan {s : State} {c : Current} (h : s.engine.current = some c) (hMark : c.entry.kind ≠ .mark)
    (progress : Nat) (clipped held : Bool) : complete .noScan progress clipped held s =
      endsNormally (c.entry.flags.getLsbD 0)
        ⟨c.entry.tag, c.entry.kind, .noScan, progress, clipped, held⟩ s := by
  rw [complete_eq h, recordDue_noScan _ hMark]
  rfl

/-- The hand-over of a PRESENT while the scan runs makes its page pending, and the command is DONE
(R57, R104). -/
theorem handOver_done {s : State} {c : Current} (h : s.engine.current = some c)
    (hKind : c.entry.kind = .present) (hRuns : scanRunning s = true)
    (hWait : c.entry.flags.getLsbD 6 = false) : handOver s =
      endsNormally (c.entry.flags.getLsbD 0) ⟨c.entry.tag, .present, .done, 0, false, c.heldOnce⟩
        { s with pages := ⟨s.pages.shown, some c.entry.presentPage⟩ } := by
  have hMark : c.entry.kind ≠ .mark := by simp [hKind]
  have hNoWait : ¬ c.entry.waitShown = true := Bool.eq_false_iff.mp hWait
  rw [← hKind, ← complete_done (by exact h) hMark]
  simp only [handOver, h, if_pos hRuns, if_neg hNoWait]
  rfl

/-- With WAIT_SHOWN it is WAITING for the switch. -/
theorem handOver_waits {s : State} {c : Current} (h : s.engine.current = some c)
    (hRuns : scanRunning s = true) (hWait : c.entry.flags.getLsbD 6 = true) : handOver s = { s with
      pages := ⟨s.pages.shown, some c.entry.presentPage⟩
      engine := { s.engine with state := .waiting, holdReason := .none } } := by
  simp only [handOver, h, if_pos hRuns, if_pos (show c.entry.waitShown = true from hWait),
    State.withPages_engine]
  rfl

/-- While the scan is stopped the page is shown at once (R105). -/
theorem handOver_stopped {s : State} {c : Current} (h : s.engine.current = some c)
    (hKind : c.entry.kind = .present) (hRuns : scanRunning s = false)
    (hPending : s.pages.pending = none) : handOver s =
      endsNormally (c.entry.flags.getLsbD 0) ⟨c.entry.tag, .present, .done, 0, false, c.heldOnce⟩
        { s with pages := ⟨c.entry.presentPage, none⟩ } := by
  have hMark : c.entry.kind ≠ .mark := by simp [hKind]
  have hStopped : ¬ scanRunning s = true := by simp [hRuns]
  rw [← hKind, ← complete_done (by exact h) hMark, ← hPending]
  simp only [handOver, h, if_neg hStopped]
  rfl

theorem presentPage_of_toNat {e : Entry} {p : Fin 4} (h : e.d.toNat = p.val) : e.presentPage = p := by
  rw [Entry.presentPage, h]
  exact Fin.ext (Nat.mod_eq_of_lt p.isLt)

/-- Settles O14. -/
theorem presentIsHeldPendingOrShown : Obligations.PresentIsHeldPendingOrShown := by
  intro s e rest hQueue hIdle hKind p hPage
  have hCheck : e.check = none := by
    simp only [Entry.check, hKind, Entry.checkPresent]
    exact if_neg (by omega)
  have hTake : exec .present s = .next (disposePresent e (taken e rest s)) :=
    exec_take_of_pass hQueue hIdle hKind hCheck
  have hOver (hPending : s.pages.pending = none) :
      disposePresent e (taken e rest s) = handOver (taken e rest s) :=
    if_neg (by simp [taken, hPending])
  have hPage := presentPage_of_toNat hPage
  rw [hTake]
  refine ⟨fun hPending => ?_, fun hPending hRuns hWait => ?_, fun hPending hRuns hWait => ?_,
    fun hPending hRuns => ?_⟩
  · have hHeld : disposePresent e (taken e rest s) = hold .present (taken e rest s) := if_pos hPending
    rw [hHeld, hold_eq rfl]
    rfl
  · rw [hOver hPending, handOver_done (s := taken e rest s) (c := Current.ofEntry e) rfl hKind hRuns hWait, ← hPage]
    rfl
  · rw [hOver hPending, handOver_waits (s := taken e rest s) (c := Current.ofEntry e) rfl hRuns hWait, ← hPage]
    rfl
  · rw [hOver hPending, handOver_stopped (s := taken e rest s) (c := Current.ofEntry e) rfl hKind hRuns hPending, ← hPage]
    rfl

/-! ## ZONE, WAIT and MARK -/

/-- The entry a ZONE writes, field by field (R133, Table 10-6). -/
theorem zoneEntry_eq (e : Entry) : e.zoneEntry =
    { enable := e.e.getLsbD 0
      effect := if e.e.getLsbD 2 then (if e.e.getLsbD 1 then .blinkInvert else .blinkOff)
        else (if e.e.getLsbD 1 then .blank else .invert)
      group := if e.e.getLsbD 3 then .b else .a
      firstColumn := BitVec.ofNat 6 (loByte e.a).toNat
      lastColumn := BitVec.ofNat 6 (hiByte e.a).toNat
      firstRow := BitVec.ofNat 5 (loByte e.b).toNat
      lastRow := BitVec.ofNat 5 (hiByte e.b).toNat } := by
  have hWidth (n : Nat) (v : Byte) : v.setWidth n = BitVec.ofNat n v.toNat :=
    (BitVec.ofNat_toNat n v).symm
  simp only [Entry.zoneEntry, hWidth, ZoneEntry.mk.injEq, true_and, and_true]
  unfold zoneEffectOf
  cases e.e.getLsbD 2 <;> cases e.e.getLsbD 1 <;> rfl

/-- Settles O15. -/
theorem zoneWritesOneEntry : Obligations.ZoneWritesOneEntry := by
  intro s e rest hQueue hIdle hKind i hIndex hColumns hColumn hRows hRow z hz
  have hCheck : e.check = none := by
    simp only [Entry.check, hKind, Entry.checkZone]
    exact if_neg (by omega)
  have hTake : exec .zone s = .next (disposeZone e (taken e rest s)) :=
    exec_take_of_pass hQueue hIdle hKind hCheck
  have hZone : e.zoneIndex = i := by
    rw [Entry.zoneIndex, hIndex]
    exact Fin.ext (Nat.mod_eq_of_lt i.isLt)
  have hMark : (Current.ofEntry e).entry.kind ≠ .mark := by simp [Current.ofEntry, hKind]
  obtain rfl : z = e.zoneEntry := hz.trans (zoneEntry_eq e).symm
  subst hZone
  rw [hTake, disposeZone, ← hKind]
  exact congrArg Host.Outcome.next (complete_done (c := Current.ofEntry e) (by rfl) hMark 0 false false)

/-- Settles O16. -/
theorem waitAndMarkAtTheirTake : Obligations.WaitAndMarkAtTheirTake := by
  intro s e rest hQueue hIdle
  have hWait (hKind : e.kind = .wait) (hCount : 1 ≤ e.d.toNat) :
      exec .wait s = .next (disposeWait e (taken e rest s)) := by
    refine exec_take_of_pass hQueue hIdle hKind ?_
    simp only [Entry.check, hKind, Entry.checkWait]
    exact if_neg (by omega)
  refine ⟨fun hKind hCount hRuns => ?_, fun hKind hCount hRuns => ?_, fun hKind => ?_⟩
  · rw [hWait hKind hCount]
    exact congrArg Host.Outcome.next (if_pos hRuns)
  · have hMark : (Current.ofEntry e).entry.kind ≠ .mark := by simp [Current.ofEntry, hKind]
    have hEnd : disposeWait e (taken e rest s) = complete .noScan 0 false false (taken e rest s) :=
      if_neg (by simpa [taken, scanRunning] using hRuns)
    rw [hWait hKind hCount, hEnd, complete_noScan (s := taken e rest s) (c := Current.ofEntry e) rfl hMark, ← hKind]
    rfl
  · have hCheck : e.check = none := by simp only [Entry.check, hKind]
    have hTake : exec .mark s = .next (disposeMark e (taken e rest s)) :=
      exec_take_of_pass hQueue hIdle hKind hCheck
    have hDue : recordDue (Current.ofEntry e).entry .done = true := by
      simp [recordDue, Current.ofEntry, hKind]
    rw [hTake, disposeMark, complete_eq (s := taken e rest s) (c := Current.ofEntry e) rfl, hDue, ← hKind]
    rfl

/-! ## RESUME of a held command -/

/-- Settles O19: outside RUNNING a current COPY or STAMP has not begun. -/
theorem resumeJudgesAHeldCommand : Obligations.ResumeJudgesAHeldCommand := by
  intro s c hCurrent hState hInv h
  obtain ⟨-, -, -, hEngine, -, -, -, -, -, -, -, -, hBusy, -, -, hDrawing, -⟩ := hInv
  have hResume : exec .resume s = .next (resumeEngine s) := exec_access_of_ready h rfl
  have hHeld := hEngine.1
  simp only [hState, hCurrent] at hHeld
  rw [hResume, resumeEngine_of_paused hState]
  refine ⟨fun hReason => ?_, fun hReason => ?_⟩
  · have hJudge : leavePaused s = holdRule s := by simp only [leavePaused, hCurrent, hReason]
    have hKind : c.entry.kind = .copy ∨ c.entry.kind = .stamp := by
      rcases hHeld.2 with hPage | hPresent
      · exact hPage.2
      · rw [hReason] at hPresent
        exact absurd hPresent.1 (by decide)
    obtain ⟨hProgress, hIndex, hPhase, hByte⟩ :=
      (hDrawing c hCurrent hKind (by simp [hState]) (by simp [hState])).2.1 (by simp [hState])
    rw [hJudge]
    refine ⟨fun hRule => ?_, fun hRule hPending => ?_, fun hRule hPending => ?_⟩
    · rw [holdRule_begins hCurrent hRule,
        beginDrawing_eq hBusy hCurrent hKind hProgress hIndex hPhase hByte]
    · rw [holdRule_holds hCurrent hRule hPending, hold_eq hCurrent]
      rfl
    · rw [holdRule_faults hCurrent hRule hPending, faultWith_eq hCurrent]
  · have hKind : c.entry.kind = .present := by
      rcases hHeld.2 with hPage | hPresent
      · rw [hReason] at hPage
        exact absurd hPage.1 (by decide)
      · exact hPresent.2
    have hJudge : leavePaused s = if s.pages.pending.isSome then hold .present s else handOver s := by
      simp only [leavePaused, hCurrent, hReason]
    rw [hJudge]
    refine ⟨fun hPending => ?_, fun hPending hRuns hWait => ?_, fun hPending hRuns hWait => ?_,
      fun hPending hRuns => ?_⟩
    · rw [if_pos hPending, hold_eq hCurrent]
      rfl
    · rw [if_neg (by simp [hPending]), handOver_done hCurrent hKind hRuns hWait]
    · rw [if_neg (by simp [hPending]), handOver_waits hCurrent hRuns hWait]
    · rw [if_neg (by simp [hPending]), handOver_stopped hCurrent hKind hRuns hPending]

end Sys2Proof.Machine

namespace Sys2Proof.Machine

/-! # Scan events at the display -/

theorem exec_rowChange_of_settled {s : State} (h : Settled s) : exec .rowChange s = .next (rowEnds s) :=
  exec_timed_of_settled h rfl

theorem exec_frameBoundary_of_settled {s : State} (h : Settled s) :
    exec .frameBoundary s = .next (positiveFrameEnds s) :=
  exec_timed_of_settled h rfl

theorem exec_pairBoundary_eq {s : State} (h : Settled s) :
    exec .pairBoundary s = .next (negativeFrameEnds s) :=
  exec_timed_of_settled h rfl

/-- Settles O43. -/
theorem rowsAndPositiveFramesEnd : Obligations.RowsAndPositiveFramesEnd := by
  intro s h
  rw [exec_rowChange_of_settled h, exec_frameBoundary_of_settled h, exec_pairBoundary_eq h]
  refine ⟨fun hRuns hRow => ?_, fun hRuns hPolarity hRow => ?_, fun hStopped => ⟨?_, ?_, ?_⟩,
    fun hRow => ?_, fun hElse => ?_, fun hElse => ?_⟩
  · rw [rowEnds, if_pos ⟨hRuns, hRow⟩, changeRow, startRow_eq]
  · rw [positiveFrameEnds, if_pos ⟨hRuns, hPolarity, hRow⟩, startRow_eq]
    rfl
  · rw [rowEnds, if_neg (by simp [hStopped])]
  · rw [positiveFrameEnds, if_neg (by simp [hStopped])]
  · rw [negativeFrameEnds, if_neg (by simp [hStopped])]
  · rw [rowEnds, if_neg fun hAll => absurd hAll.2 (Nat.not_lt.mpr hRow)]
  · rw [positiveFrameEnds, if_neg]
    rintro ⟨-, hPolarity, hRow⟩
    rcases hElse with hRow' | hPolarity'
    · exact hRow' hRow
    · rw [hPolarity] at hPolarity'
      cases hPolarity'
  · rw [negativeFrameEnds, if_neg]
    rintro ⟨-, hPolarity, hRow⟩
    rcases hElse with hRow' | hPolarity'
    · exact hRow' hRow
    · rw [hPolarity] at hPolarity'
      cases hPolarity'

/-! ## The pair boundary before the engine takes its part -/

/-- The presentation unit after a switch (R107, R108). -/
def Presentation.switched (p : Presentation) : Presentation :=
  match p.pending with
  | some q => ⟨q, none⟩
  | none => p

theorem Presentation.switched_pending (p : Presentation) : p.switched.pending = none := by
  unfold Presentation.switched
  cases h : p.pending with
  | none => exact h
  | some q => rfl

theorem Presentation.switched_of_some {p : Presentation} {q : Fin 4} (h : p.pending = some q) :
    p.switched = ⟨q, none⟩ := by
  simp only [Presentation.switched, h]

theorem switchPage_switched (s : State) : switchPage s = s.withPages s.pages.switched := by
  unfold switchPage Presentation.switched
  cases s.pages.pending <;> rfl

/-- The frame counted, the staged settings active and the pending page switched (R122). -/
def boundaryTaken (s : State) : State :=
  { activated s with irq := { s.irq with pair := true }, pages := s.pages.switched }

theorem boundaryTaken_eq (s : State) :
    switchPage (activateSettings (latchPair (countFrame s))) = boundaryTaken s := by
  rw [switchPage_switched]
  rfl

/-- The state in which the engine takes its part of a pair boundary: the panel has taken its own, or has
stopped the scan (R122, R150, R151). -/
def pairTaken (s : State) : State :=
  if s.panel.state = .stopping then scanStopped (boundaryTaken s)
  else panelAtPairBoundary (boundaryTaken s)

theorem pairTaken_of_stopping {s : State} (h : s.panel.state = .stopping) :
    pairTaken s = scanStopped (boundaryTaken s) := if_pos h

theorem pairTaken_of_going {s : State} (h : s.panel.state ≠ .stopping) :
    pairTaken s = panelAtPairBoundary (boundaryTaken s) := if_neg h

theorem takePairBoundary_of_stopping {s : State} (h : s.panel.state = .stopping) :
    takePairBoundary s = engineTakesScanEvent true true s.pages.pending.isSome (pairTaken s) := by
  rw [takePairBoundary, boundaryTaken_eq]
  simp only [if_pos h, stopDrive_enterDischarging, pairTaken_of_stopping h]

theorem takePairBoundary_of_going {s : State} (h : s.panel.state ≠ .stopping) :
    takePairBoundary s =
      startRow .positive 0 (engineTakesScanEvent true false s.pages.pending.isSome (pairTaken s)) := by
  rw [takePairBoundary, boundaryTaken_eq]
  simp only [if_neg h, pairTaken_of_going h]

/-- The panel's part of a boundary, whole. -/
theorem panelAtPairBoundary_whole (s : State) : panelAtPairBoundary s = { s with
    panel := { s.panel with
      state := (match s.panel.state, s.panel.pending with
        | .blanked, .show => .showing
        | .showing, .blank => .blanked
        | x, _ => x)
      pending := .none
      contrastActual := stepContrast s.panel.contrastActual s.panel.contrastTarget }
    irq := { s.irq with
      panel := (match s.panel.state, s.panel.pending with
        | .blanked, .show | .showing, .blank => true
        | _, _ => s.irq.panel) } } := by
  unfold panelAtPairBoundary
  cases hState : s.panel.state <;> cases hPending : s.panel.pending <;>
    simp [enterPanel, latchPanel, State.withPanel, State.withIrq, hState]

/-- The boundary does not look at the engine before the engine takes its part. -/
theorem pairTaken_withEngine (s : State) (g : Engine) :
    pairTaken { s with engine := g } = { pairTaken s with engine := g } := by
  by_cases h : s.panel.state = .stopping
  · rw [pairTaken_of_stopping h, pairTaken_of_stopping (by exact h)]
    rfl
  · rw [pairTaken_of_going h, pairTaken_of_going (by exact h), panelAtPairBoundary_whole,
      panelAtPairBoundary_whole]
    rfl

theorem pairTaken_engine (s : State) : (pairTaken s).engine = s.engine := by
  unfold pairTaken
  split
  · rfl
  · rw [panelAtPairBoundary_whole]
    rfl

theorem pairTaken_pages (s : State) : (pairTaken s).pages = s.pages.switched := by
  unfold pairTaken
  split
  · rfl
  · rw [panelAtPairBoundary_whole]
    rfl

theorem pairTaken_arbiter_of_going {s : State} (h : s.panel.state ≠ .stopping) :
    (pairTaken s).arbiter = s.arbiter := by
  rw [pairTaken_of_going h, panelAtPairBoundary_whole]
  rfl

/-- An engine that neither waits nor is held over a switch takes no part (R45, R54, R55). -/
theorem pairTaken_engine_idle {s : State} (stopped : Bool) (hWaiting : s.engine.state ≠ .waiting)
    (hHeld : s.engine.state = .held → s.pages.pending = none) :
    engineTakesScanEvent true stopped s.pages.pending.isSome (pairTaken s) = pairTaken s :=
  engineTakesScanEvent_idle _ _ _ (by rwa [pairTaken_engine]) fun h => by
    rw [pairTaken_engine] at h
    simp [hHeld h]

/-- Settles O44. -/
theorem aPairBoundaryActivatesSettings : Obligations.APairBoundaryActivatesSettings := by
  rintro s h hState hPolarity hRow hWaiting hHeld _ rfl
  have hGoing : s.panel.state ≠ .stopping := by rcases hState with h | h <;> rw [h] <;> decide
  have hRuns : scanRunning s = true := by
    unfold scanRunning
    rcases hState with h | h <;> rw [h] <;> rfl
  rw [exec_pairBoundary_of_settled h hRuns hPolarity hRow, takePairBoundary_of_going hGoing,
    pairTaken_engine_idle _ hWaiting hHeld, startRow_eq, pairTaken_of_going hGoing,
    panelAtPairBoundary_whole]
  rfl

/-- Settles O45. -/
theorem aPairBoundaryEndsStopping : Obligations.APairBoundaryEndsStopping := by
  intro s h hState hPolarity hRow hWaiting hHeld
  have hRuns : scanRunning s = true := by
    unfold scanRunning
    rw [hState]
    rfl
  rw [exec_pairBoundary_of_settled h hRuns hPolarity hRow, takePairBoundary_of_stopping hState,
    pairTaken_engine_idle _ hWaiting hHeld, pairTaken_of_stopping hState]
  rfl

/-! ## The engine's part -/

/-- The engine with the boundaries its WAIT has counted (R54). -/
def waitProgress (c : Current) (n : Nat) (s : State) : State :=
  { s with engine := { s.engine with current := some { c with progress := n } } }

/-- What a WAIT does at a boundary or a stop (R54, R55). -/
theorem engineTakesScanEvent_wait {s : State} {c : Current} (hState : s.engine.state = .waiting)
    (hCurrent : s.engine.current = some c) (hKind : c.entry.kind = .wait)
    (counted stopped switched : Bool) {n : Nat}
    (hn : n = if counted then c.progress + 1 else c.progress) :
    engineTakesScanEvent counted stopped switched s =
      if counted && decide (c.entry.d.toNat ≤ n) then
        endsNormally (c.entry.flags.getLsbD 0) ⟨c.entry.tag, .wait, .done, n, false, false⟩
          (waitProgress c n s)
      else if stopped then
        endsNormally (c.entry.flags.getLsbD 0) ⟨c.entry.tag, .wait, .noScan, n, false, false⟩
          (waitProgress c n s)
      else waitProgress c n s := by
  have hMark : c.entry.kind ≠ .mark := by simp [hKind]
  have hProgress : (waitProgress c n s).engine.current = some { c with progress := n } := rfl
  have hDone := complete_done hProgress hMark n false false
  have hNoScan := complete_noScan hProgress hMark n false false
  simp only [hKind] at hDone hNoScan
  rw [← hDone, ← hNoScan, hn]
  unfold engineTakesScanEvent
  split
  · rename_i c' _ hc
    cases hCurrent.symm.trans hc
    simp only [hKind]
    rfl
  · rename_i hHeld _
    exact absurd (hState.symm.trans hHeld) (by decide)
  · rename_i hOther _
    exact absurd hCurrent (hOther c hState)

/-- A WAIT_SHOWN PRESENT is DONE at its switch (R111). -/
theorem engineTakesScanEvent_present {s : State} {c : Current} (hState : s.engine.state = .waiting)
    (hCurrent : s.engine.current = some c) (hKind : c.entry.kind = .present)
    (hShown : s.pages.shown = c.entry.presentPage) (counted stopped : Bool) :
    engineTakesScanEvent counted stopped true s =
      endsNormally (c.entry.flags.getLsbD 0) ⟨c.entry.tag, .present, .done, 0, false, c.heldOnce⟩ s := by
  have hMark : c.entry.kind ≠ .mark := by simp [hKind]
  have hDone := complete_done hCurrent hMark 0 false c.heldOnce
  rw [hKind] at hDone
  rw [← hDone]
  simp only [engineTakesScanEvent, hState, hCurrent, hKind, hShown, beq_self_eq_true, Bool.and_self,
    if_true]

/-- A HELD engine is judged again after a switch (R45). -/
theorem engineTakesScanEvent_held {s : State} {c : Current} (hState : s.engine.state = .held)
    (hCurrent : s.engine.current = some c) (counted stopped : Bool) :
    engineTakesScanEvent counted stopped true s = reevaluate s := by
  simp only [engineTakesScanEvent, hState, hCurrent, if_true]

/-! An ending and the start of a row touch different blocks. -/

theorem startRow_endsNormally (polarity : Polarity) (row : Nat) (due : Bool) (r : Record) (s : State) :
    startRow polarity row (endsNormally due r s) = endsNormally due r (startRow polarity row s) := by
  rw [startRow_eq, startRow_eq]
  unfold endsNormally
  split
  · split <;> rfl
  · rfl

theorem startRow_endsInFault (polarity : Polarity) (row : Nat) (r : Record) (s : State) :
    startRow polarity row (endsInFault r s) = endsInFault r (startRow polarity row s) := by
  rw [startRow_eq, startRow_eq]
  unfold endsInFault
  split <;> rfl

theorem startRow_withEngine (polarity : Polarity) (row : Nat) (s : State) (g : Engine) :
    startRow polarity row { s with engine := g } = { startRow polarity row s with engine := g } := by
  rw [startRow_eq, startRow_eq]

/-! ## A pair boundary with the engine taking part -/

theorem engineTakesScanEvent_reset (counted stopped switched : Bool) (s : State) :
    engineTakesScanEvent counted stopped switched { s with engine := Engine.reset } =
      { s with engine := Engine.reset } := rfl

section
variable {s : State} (h : Settled s) (hRuns : scanRunning s = true)
  (hPolarity : s.scanner.polarity = .negative) (hRow : s.scanner.row + 1 = activeCommons s)
include h hRuns hPolarity hRow

theorem exec_pairBoundary_of_going (hGoing : s.panel.state ≠ .stopping) :
    exec .pairBoundary s = .next (startRow .positive 0
      (engineTakesScanEvent true false s.pages.pending.isSome (pairTaken s))) := by
  rw [exec_pairBoundary_of_settled h hRuns hPolarity hRow, takePairBoundary_of_going hGoing]

theorem exec_pairBoundary_of_stopping (hStopping : s.panel.state = .stopping) :
    exec .pairBoundary s = .next
      (engineTakesScanEvent true true s.pages.pending.isSome (pairTaken s)) := by
  rw [exec_pairBoundary_of_settled h hRuns hPolarity hRow, takePairBoundary_of_stopping hStopping]

end

section
variable {s : State} (hRuns : scanRunning s = true)
  (hPolarity : s.scanner.polarity = .negative) (hRow : s.scanner.row + 1 = activeCommons s)
include hRuns hPolarity hRow

/-- The boundary as an IDLE engine lets the rest of the part take it. -/
theorem exec_pairBoundary_reset_of_going (hGoing : s.panel.state ≠ .stopping) :
    exec .pairBoundary { s with engine := Engine.reset } =
      .next { startRow .positive 0 (pairTaken s) with engine := Engine.reset } := by
  rw [exec_pairBoundary_of_going (s := { s with engine := Engine.reset }) rfl hRuns hPolarity hRow hGoing,
    pairTaken_withEngine, engineTakesScanEvent_reset, startRow_withEngine]

theorem exec_pairBoundary_reset_of_stopping (hStopping : s.panel.state = .stopping) :
    exec .pairBoundary { s with engine := Engine.reset } =
      .next { pairTaken s with engine := Engine.reset } := by
  rw [exec_pairBoundary_of_stopping (s := { s with engine := Engine.reset }) rfl hRuns hPolarity hRow
    hStopping, pairTaken_withEngine, engineTakesScanEvent_reset]

end

/-- Settles O47. -/
theorem aWaitingEngineAtAPairBoundary : Obligations.AWaitingEngineAtAPairBoundary := by
  intro s c hCurrent hState h hRuns hPolarity hRow u hu
  have hState' : (pairTaken s).engine.state = .waiting := by rw [pairTaken_engine, hState]
  have hCurrent' : (pairTaken s).engine.current = some c := by rw [pairTaken_engine, hCurrent]
  have hWait (hKind : c.entry.kind = .wait) (stopped : Bool) :=
    engineTakesScanEvent_wait hState' hCurrent' hKind true stopped s.pages.pending.isSome
      (n := c.progress + 1) rfl
  have hProgress : waitProgress c (c.progress + 1) (pairTaken s) = { pairTaken s with
      engine := { s.engine with current := some { c with progress := c.progress + 1 } } } := by
    rw [waitProgress, pairTaken_engine]
  have hShown (hPending : s.pages.pending = some c.entry.presentPage) :
      (pairTaken s).pages.shown = c.entry.presentPage := by
    rw [pairTaken_pages, Presentation.switched_of_some hPending]
  have hSame : pairTaken s = { pairTaken s with engine := s.engine } := by
    conv_rhs => rw [← pairTaken_engine s]
  by_cases hStopping : s.panel.state = .stopping
  · cases (exec_pairBoundary_reset_of_stopping hRuns hPolarity hRow hStopping).symm.trans hu
    rw [exec_pairBoundary_of_stopping h hRuns hPolarity hRow hStopping]
    refine ⟨?_, fun hKind hPending => ?_⟩
    · rintro hKind _ rfl
      rw [hWait hKind true, hProgress]
      refine ⟨fun hLast => ?_, fun hMore _ => ?_, fun hMore hNot => absurd hStopping hNot⟩
      · rw [if_pos (by simpa using hLast)]
      · rw [if_neg (by simpa using hMore), if_pos rfl]
    · rw [hPending, Option.isSome_some,
        engineTakesScanEvent_present hState' hCurrent' hKind (hShown hPending)]
      exact congrArg (fun t => Host.Outcome.next (endsNormally _ _ t)) hSame
  · cases (exec_pairBoundary_reset_of_going hRuns hPolarity hRow hStopping).symm.trans hu
    rw [exec_pairBoundary_of_going h hRuns hPolarity hRow hStopping]
    refine ⟨?_, fun hKind hPending => ?_⟩
    · rintro hKind _ rfl
      rw [hWait hKind false, hProgress]
      refine ⟨fun hLast => ?_, fun hMore hNot => absurd hNot hStopping, fun hMore _ => ?_⟩
      · rw [if_pos (by simpa using hLast), startRow_endsNormally, startRow_withEngine]
      · rw [if_neg (by simpa using hMore), if_neg (by decide), startRow_withEngine]
    · rw [hPending, Option.isSome_some,
        engineTakesScanEvent_present hState' hCurrent' hKind (hShown hPending), startRow_endsNormally]
      refine congrArg (fun t => Host.Outcome.next (endsNormally _ _ t)) ?_
      rw [hSame, startRow_withEngine]

end Sys2Proof.Machine

namespace Sys2Proof.Machine

/-! # The engine at a switch and at a stop of the scan, the timers and the resets -/

/-! ## A held engine at a switch -/

theorem pairTaken_scanRunning {s : State} (h : s.panel.state = .blanked ∨ s.panel.state = .showing) :
    scanRunning (pairTaken s) = true := by
  have hGoing : s.panel.state ≠ .stopping := by rcases h with h | h <;> rw [h] <;> decide
  have hPanel : (boundaryTaken s).panel = s.panel := rfl
  unfold scanRunning
  rw [pairTaken_of_going hGoing, panelAtPairBoundary_panel, hPanel]
  rcases h with h | h <;> cases hp : s.panel.pending <;> rw [h] <;> rfl

/-- What EngineInv says of a held command. -/
theorem held_kind {s : State} {c : Current} (hInv : EngineInv s) (hCurrent : s.engine.current = some c)
    (hState : s.engine.state = .held) :
    (s.engine.holdReason = .page → c.entry.kind = .copy ∨ c.entry.kind = .stamp) ∧
      (s.engine.holdReason = .present → c.entry.kind = .present) := by
  have hHeld := hInv.1
  simp only [hState, hCurrent] at hHeld
  constructor <;> intro hReason <;> rcases hHeld.2 with hCase | hCase
  · exact hCase.2
  · rw [hReason] at hCase
    exact absurd hCase.1 (by decide)
  · rw [hReason] at hCase
    exact absurd hCase.1 (by decide)
  · exact hCase.2

/-- A held COPY or STAMP that may begin begins with its first access (R45). -/
theorem holdRule_begins_held {s t : State} {c : Current} (hDrawing : DrawingInv s)
    (hState : s.engine.state = .held) (hEngine : t.engine = s.engine)
    (hCurrent : s.engine.current = some c) (hKind : c.entry.kind = .copy ∨ c.entry.kind = .stamp)
    (hBusy : ArbiterBusyInv t) (hRule : HoldRuleAllows c.entry t) :
    holdRule t = { t with
      engine := engineBegins c s.engine
      arbiter := engineAsks (firstAccess c.entry) t.arbiter } := by
  obtain ⟨hProgress, hIndex, hPhase, hByte⟩ :=
    (hDrawing c hCurrent hKind (by simp [hState]) (by simp [hState])).2.1 (by simp [hState])
  have hCurrent' : t.engine.current = some c := by rw [hEngine, hCurrent]
  rw [holdRule_begins hCurrent' hRule,
    beginDrawing_eq hBusy hCurrent' hKind hProgress hIndex hPhase hByte, hEngine]

/-- Settles O48. -/
theorem aHeldEngineAtASwitch : Obligations.AHeldEngineAtASwitch := by
  intro s c hCurrent hState hInv h hPanel hPolarity hRow q hPending u hu
  obtain ⟨-, -, -, hEngineInv, -, -, -, -, -, -, -, -, hBusy, -, -, hDrawing, -⟩ := hInv
  have hGoing : s.panel.state ≠ .stopping := by rcases hPanel with h | h <;> rw [h] <;> decide
  have hRuns : scanRunning s = true := by
    unfold scanRunning
    rcases hPanel with h | h <;> rw [h] <;> rfl
  obtain ⟨hDraws, hPresents⟩ := held_kind hEngineInv hCurrent hState
  cases (exec_pairBoundary_reset_of_going hRuns hPolarity hRow hGoing).symm.trans hu
  have hEngine := pairTaken_engine s
  have hState' : (pairTaken s).engine.state = .held := by rw [hEngine, hState]
  have hCurrent' : (pairTaken s).engine.current = some c := by rw [hEngine, hCurrent]
  have hPages : (pairTaken s).pages = ⟨q, none⟩ := by
    rw [pairTaken_pages, Presentation.switched_of_some hPending]
  have hNone : (pairTaken s).pages.pending = none := by rw [hPages]
  have hRuns' := pairTaken_scanRunning hPanel
  have hArbiter := pairTaken_arbiter_of_going hGoing
  have hBusy' : ArbiterBusyInv (pairTaken s) := by
    unfold ArbiterBusyInv
    rw [hArbiter]
    exact hBusy
  have hSame : pairTaken s = { pairTaken s with engine := s.engine } := by
    conv_rhs => rw [← hEngine]
  rw [exec_pairBoundary_of_going h hRuns hPolarity hRow hGoing, hPending, Option.isSome_some,
    engineTakesScanEvent_held hState' hCurrent']
  have hPage (hReason : s.engine.holdReason = .page) : reevaluate (pairTaken s) = holdRule (pairTaken s) := by
    simp only [reevaluate, hEngine, hReason]
  have hPresent (hReason : s.engine.holdReason = .present) :
      reevaluate (pairTaken s) = handOver (pairTaken s) := by
    simp only [reevaluate, hEngine, hReason]
  have hAllows : HoldRuleAllows c.entry (pairTaken s) ↔ c.entry.touches q = false := by
    simp [HoldRuleAllows, hPages, hRuns']
  refine ⟨fun hReason hClear => ?_, fun hReason hTouches => ?_, fun hReason hWait => ?_,
    fun hReason hWait => ?_⟩
  · rw [hPage hReason, holdRule_begins_held hDrawing hState hEngine hCurrent (hDraws hReason) hBusy'
      (hAllows.mpr hClear), startRow_eq, startRow_eq]
    simp only [hPages, hArbiter]
  · have hRule : ¬ HoldRuleAllows c.entry (pairTaken s) := by simp [hAllows, hTouches]
    rw [hPage hReason, holdRule_faults hCurrent' hRule hNone, faultWith_eq hCurrent',
      startRow_endsInFault]
    refine congrArg (fun t => Host.Outcome.next (endsInFault _ t)) ?_
    rw [hSame, startRow_withEngine]
  · rw [hPresent hReason, handOver_done hCurrent' (hPresents hReason) hRuns' hWait,
      startRow_endsNormally, startRow_eq, startRow_eq]
    simp only [hPages, hEngine]
  · rw [hPresent hReason, handOver_waits hCurrent' hRuns' hWait, startRow_eq, startRow_eq]
    simp only [hPages, hEngine]

/-! ## The events that stop the scan -/

/-- The state in which the engine takes its part of an emergency discharge (R108, R123, R158). -/
def sampleStopped (millivolts : Nat) (s : State) : State :=
  { scanStopped s with
    supply := { s.supply with
      state := .low, history := some .low, timer := 0, millivolts := millivolts }
    irq := { s.irq with supply := true, panel := true }
    pages := s.pages.switched }

section
variable {s : State} {millivolts : Nat} (hLevel : 2000 ≤ millivolts) (hIn : inReset s = false)
  (hEnabled : s.supply.enabled = true)
include hLevel hIn hEnabled

theorem exec_sample_of_settled (h : Settled s) :
    exec (.sample millivolts) s = .next (takeSample millivolts s) := by
  have hTimed : exec (.sample millivolts) s = .next (sampleTimerEnds millivolts s) :=
    exec_timed_of_settled h rfl
  rw [hTimed, sampleTimerEnds, if_neg (by omega), if_pos ⟨hEnabled, by simp [hIn]⟩]

end

/-- A sample that confirms LOW (R157). -/
theorem recordSample_confirms {s : State} {millivolts : Nat} (hLow : sampleLevelOf millivolts = .low)
    (hState : s.supply.state = .ok) (hHistory : s.supply.history = some .low) :
    recordSample millivolts s = { s with supply := { s.supply with
      state := .low, history := some .low, timer := 0, millivolts := millivolts } } := by
  rw [recordSample, hState, hHistory, hLow]
  rfl

/-- It discharges a powered panel at once (R158). -/
theorem takeSample_confirms {s : State} {millivolts : Nat} (hLow : sampleLevelOf millivolts = .low)
    (hState : s.supply.state = .ok) (hHistory : s.supply.history = some .low) :
    takeSample millivolts s =
      if s.panel.state.powered then
        emergencyDischarge { s with
          supply := { s.supply with
            state := .low, history := some .low, timer := 0, millivolts := millivolts }
          irq := { s.irq with supply := true } }
      else { s with
        supply := { s.supply with
          state := .low, history := some .low, timer := 0, millivolts := millivolts }
        irq := { s.irq with supply := true } } := by
  rw [takeSample, recordSample_confirms hLow hState hHistory]
  exact if_pos ⟨hState, rfl⟩

theorem takeSample_stops {s : State} {millivolts : Nat} (hLow : sampleLevelOf millivolts = .low)
    (hState : s.supply.state = .ok) (hHistory : s.supply.history = some .low)
    (hRuns : scanRunning s = true) :
    takeSample millivolts s =
      engineTakesScanEvent false true s.pages.pending.isSome (sampleStopped millivolts s) := by
  have hPanel : s.panel.state.powered = true := by
    unfold scanRunning at hRuns
    cases hs : s.panel.state <;> simp_all [PanelState.scans, PanelState.powered]
  rw [takeSample_confirms hLow hState hHistory, if_pos hPanel, emergencyDischarge,
    if_pos (by exact hRuns),
    stopDrive_enterDischarging, switchPage_switched]
  rfl

/-- A stop of the scan: the rest of the part stops without looking at the engine, and then the engine takes
its part (R123). -/
theorem stop_eq {event : Instr} {s : State} (hStop : StopsTheScan event s) :
    ∃ (t : State) (counted : Bool), (event ≠ .pairBoundary → counted = false) ∧
      t.pages = s.pages.switched ∧ scanRunning t = false ∧ t.arbiter = s.arbiter.discardRow ∧
      ∀ g : Engine, g.takeDue = false → exec event { s with engine := g } =
        .next (engineTakesScanEvent counted true s.pages.pending.isSome { t with engine := g }) := by
  obtain ⟨hRuns, ⟨rfl, hStopping, hPolarity, hRow⟩ |
    ⟨millivolts, rfl, hLevel, hLow, hIn, hEnabled, hState, hHistory⟩⟩ := hStop
  · refine ⟨pairTaken s, true, fun hNot => absurd rfl hNot, pairTaken_pages s, ?_, ?_, fun g hTake => ?_⟩
    · rw [pairTaken_of_stopping hStopping]
      rfl
    · rw [pairTaken_of_stopping hStopping]
      rfl
    · rw [exec_pairBoundary_of_stopping (s := { s with engine := g }) hTake hRuns hPolarity hRow hStopping,
        pairTaken_withEngine]
  · refine ⟨sampleStopped millivolts s, false, fun _ => rfl, rfl, rfl, rfl, fun g hTake => ?_⟩
    rw [exec_sample_of_settled (s := { s with engine := g }) hLevel hIn hEnabled hTake,
      takeSample_stops (s := { s with engine := g }) hLow hState hHistory hRuns]
    rfl

theorem discardRow_busy {b : Arbiter}
    (h : b.grant = none → b.rowRequest = none ∧ b.portRequest = none ∧ b.engineRequest = none) :
    b.discardRow.grant = none →
      b.discardRow.rowRequest = none ∧ b.discardRow.portRequest = none ∧
        b.discardRow.engineRequest = none := by
  intro hGrant
  obtain ⟨hRow, hPort, hEngine⟩ := h (Option.map_eq_none_iff.mp hGrant)
  exact ⟨Option.map_eq_none_iff.mpr hRow, hPort, hEngine⟩

/-- Settles O49. -/
theorem theEngineAtAStopOfTheScan : Obligations.TheEngineAtAStopOfTheScan := by
  intro s c hCurrent hInv h event hStop u hu
  obtain ⟨-, -, -, hEngineInv, hPresentInv, -, -, -, -, -, -, -, hBusy, -, -, hDrawing, -⟩ := hInv
  obtain ⟨t, counted, hCounted, hPages, hStopped, hArbiter, hExec⟩ := stop_eq hStop
  cases (hExec Engine.reset rfl).symm.trans hu
  rw [show exec event s = _ from hExec s.engine h, engineTakesScanEvent_reset]
  have hNone : t.pages.pending = none := by rw [hPages, Presentation.switched_pending]
  have hHeld (hState : s.engine.state = .held) : s.pages.pending.isSome = true :=
    hPresentInv.2.1 hState
  refine ⟨fun hState hKind hEvent => ?_, fun hState hKind => ?_, fun hState hReason => ?_,
    fun hState hReason => ?_⟩
  · rw [hCounted hEvent, engineTakesScanEvent_wait (s := { t with engine := s.engine }) hState hCurrent
      hKind false true _ (n := c.progress) rfl]
    simp only [Bool.false_and, Bool.false_eq_true, if_false, if_true]
    refine congrArg (fun t => Host.Outcome.next (endsNormally _ _ t)) ?_
    simp only [waitProgress, ← hCurrent]
  · have hPending := (hPresentInv.2.2 c hState hCurrent).1 hKind
    rw [hPending, Option.isSome_some,
      engineTakesScanEvent_present (s := { t with engine := s.engine }) hState hCurrent hKind
        (by rw [hPages, Presentation.switched_of_some hPending])]
  · rw [hHeld hState, engineTakesScanEvent_held (s := { t with engine := s.engine }) hState hCurrent]
    have hPage : reevaluate { t with engine := s.engine } = holdRule { t with engine := s.engine } := by
      simp only [reevaluate, hReason]
    have hRule : HoldRuleAllows c.entry { t with engine := s.engine } := by
      simp only [HoldRuleAllows, hNone]
      exact .inl hStopped
    have hBusy' : ArbiterBusyInv { t with engine := s.engine } := by
      unfold ArbiterBusyInv
      rw [hArbiter]
      exact discardRow_busy hBusy
    rw [hPage, holdRule_begins_held (t := { t with engine := s.engine }) hDrawing hState rfl hCurrent
      ((held_kind hEngineInv hCurrent hState).1 hReason) hBusy' hRule]
  · rw [hHeld hState, engineTakesScanEvent_held (s := { t with engine := s.engine }) hState hCurrent]
    have hPresent : reevaluate { t with engine := s.engine } = handOver { t with engine := s.engine } := by
      simp only [reevaluate, hReason]
    rw [hPresent, handOver_stopped (s := { t with engine := s.engine }) hCurrent
      ((held_kind hEngineInv hCurrent hState).2 hReason) hStopped hNone]

/-! ## The timers -/

/-- Settles O51. -/
theorem chargeAndDischargeExpire : Obligations.ChargeAndDischargeExpire := by
  intro s h
  have hCharge : exec .chargeExpiry s = .next (chargeTimerEnds s) := exec_timed_of_settled h rfl
  have hDischarge : exec .dischargeExpiry s = .next (dischargeTimerEnds s) := exec_timed_of_settled h rfl
  rw [hCharge, hDischarge]
  refine ⟨fun hState => ?_, fun hState => ?_, fun hState => ?_, fun hState => ?_⟩
  · rw [chargeTimerEnds, if_pos hState, endCharging, startRow_eq]
    rfl
  · rw [chargeTimerEnds, if_neg hState]
  · rw [dischargeTimerEnds, if_pos hState]
    rfl
  · rw [dischargeTimerEnds, if_neg hState]

/-- Settles O53. -/
theorem aConfirmedLowDischargesThePanel : Obligations.AConfirmedLowDischargesThePanel := by
  rintro s millivolts h hIn hLevel hLow hEnabled hState hHistory hWaiting hHeld _ rfl
  rw [exec_sample_of_settled hLevel hIn hEnabled h]
  refine ⟨fun hPanel => ?_, fun hRuns => ?_⟩
  · have hStopped : ¬ scanRunning s = true := by simp [scanRunning, hPanel, PanelState.scans]
    rw [takeSample_confirms hLow hState hHistory, if_pos (by rw [hPanel]; rfl), emergencyDischarge,
      if_neg (by exact hStopped), enterDischarging_eq]
  · rw [takeSample_stops hLow hState hHistory hRuns,
      engineTakesScanEvent_idle _ _ _ (by exact hWaiting) fun hs => by simp [hHeld hs]]
    rfl

theorem sampleLevelOf_eq_good_iff (millivolts : Nat) :
    sampleLevelOf millivolts = .good ↔ lowThreshold ≤ millivolts := by
  have hBand : 2400 ≤ lowThreshold ∧ lowThreshold ≤ 2500 := by
    unfold lowThreshold
    omega
  unfold sampleLevelOf
  split_ifs <;> simp <;> omega

/-- A sample that leaves the supply state, or finds it LOW, is recorded and does nothing more (R157). -/
theorem takeSample_quiet {s : State} {millivolts : Nat} {state : SupplyState}
    (hState : supplyAfter s.supply.state s.supply.history (sampleLevelOf millivolts) = state)
    (hQuiet : ¬ (s.supply.state = .ok ∧ state = .low)) :
    takeSample millivolts s = { s with supply := { s.supply with
      state := state, history := some (sampleLevelOf millivolts), timer := 0
      millivolts := millivolts } } := by
  rw [takeSample, recordSample, hState]
  exact if_neg hQuiet

theorem supplyAfter_ok {history : Option SampleLevel} {level : SampleLevel}
    (h : ¬ (level = .low ∧ history = some .low)) : supplyAfter .ok history level = .ok := by
  rcases history with _ | _ | _ <;> cases level <;> simp_all [supplyAfter]

theorem supplyAfter_low_kept {history : Option SampleLevel} {level : SampleLevel}
    (h : ¬ (level = .good ∧ history = some .good)) : supplyAfter .low history level = .low := by
  rcases history with _ | _ | _ <;> cases level <;> simp_all [supplyAfter]

/-- Settles O52. -/
theorem aSampleMovesTheSupplyState : Obligations.ASampleMovesTheSupplyState := by
  intro s millivolts h
  have hTimed : exec (.sample millivolts) s = .next (sampleTimerEnds millivolts s) :=
    exec_timed_of_settled h rfl
  refine ⟨?_, fun hLevel hIn hEnabled => ⟨_, rfl, sampleLevelOf_eq_good_iff _, fun hHigh => ?_,
    fun hLow => ?_, ?_⟩, fun hLevel hOff => ?_, fun hLow => ?_⟩
  · unfold lowThreshold
    omega
  · exact if_pos hHigh
  · rw [sampleLevelOf, if_neg (by omega), if_pos hLow]
  · rintro _ rfl
    rw [exec_sample_of_settled hLevel hIn hEnabled h]
    refine ⟨fun hState hNot => ?_, fun hState hLow hHistory hPanel => ?_, fun hState hNot => ?_,
      fun hState hGood hHistory => ?_⟩
    · rw [takeSample_quiet (state := s.supply.state) (by rw [hState]; exact supplyAfter_ok hNot)
        (by simp [hState])]
    · have hPowered : s.panel.state.powered = false := by rcases hPanel with hp | hp <;> rw [hp] <;> rfl
      rw [takeSample_confirms hLow hState hHistory, if_neg (by simp [hPowered]), hLow]
    · rw [takeSample_quiet (state := s.supply.state) (by rw [hState]; exact supplyAfter_low_kept hNot)
        (by simp [hState])]
    · rw [takeSample_quiet (state := .ok) (by rw [hState, hHistory, hGood]; rfl) (by simp)]
  · rw [hTimed, sampleTimerEnds, if_neg (by omega), if_neg]
    rcases hOff with hOff | hOff <;> simp [hOff]
  · rw [hTimed, sampleTimerEnds, if_pos hLow]
    rfl

/-! ## The resets -/

/-- The write that a reset cuts, landed or not (R15). -/
theorem memoryAfterCut_cases (s : State) : memoryAfterCut s = s.memory ∨
    (∃ a v, s.arbiter.grant = some (.port (.write a v)) ∧
      memoryAfterCut s = memoryWrite s.memory a v) ∨
    (∃ a v d, s.arbiter.grant = some (.engine ⟨.copyWrite a v, d⟩) ∧
      memoryAfterCut s = memoryWrite s.memory a v) ∨
    (∃ a m b o d, s.arbiter.grant = some (.engine ⟨.stampModify a m b o, d⟩) ∧
      memoryAfterCut s = memoryWrite s.memory a (o.combine (byteAt s a) m b)) := by
  unfold memoryAfterCut
  cases Config.cutWriteLands s.freeCount with
  | false => exact .inl (by dsimp only; split <;> rfl)
  | true =>
    rcases s.arbiter.grant with _ | ⟨_, _⟩ | ⟨_ | ⟨a, v⟩⟩ | ⟨_ | ⟨a, v⟩ | _ | ⟨a, m, b, o⟩, d⟩
    case true.some.port.write => exact .inr (.inl ⟨a, v, rfl, rfl⟩)
    case true.some.engine.copyWrite => exact .inr (.inr (.inl ⟨a, v, d, rfl, rfl⟩))
    case true.some.engine.stampModify => exact .inr (.inr (.inr ⟨a, m, b, o, d, rfl, rfl⟩))
    all_goals exact .inl rfl

/-- Settles O54. -/
theorem deviceResetAndItsRelease : Obligations.DeviceResetAndItsRelease := by
  intro s
  refine ⟨⟨memoryAfterCut s, rfl, memoryAfterCut_cases s⟩, fun hLow => ?_, fun hHigh => ?_⟩
  · exact congrArg Host.Outcome.next (if_pos hLow)
  · exact congrArg Host.Outcome.next (if_neg (by simp [hHigh]))

/-- Settles O55. -/
theorem powerOnHoldsThePartInReset : Obligations.PowerOnHoldsThePartInReset := by
  intro s
  refine ⟨rfl, fun hLow => ?_, fun hNot => ?_, fun n hReleasing => ⟨?_, fun hPending => ?_⟩, fun hElse => ?_⟩
  · exact congrArg Host.Outcome.next (if_pos hLow)
  · exact congrArg Host.Outcome.next (if_neg hNot)
  · show Host.Outcome.next (takePowerOnRelease s) = _
    rw [takePowerOnRelease, hReleasing]
    rfl
  · have hIn : inReset s = true := by simp [inReset, hReleasing]
    rw [step, hPending]
    show Host.Outcome.next (idleStep s) = _
    rw [idleStep_of_inReset hIn, tickReset, hReleasing]
    simp only [countDown, decide_eq_true_eq]
    rfl
  · show Host.Outcome.next (takePowerOnRelease s) = _
    rcases hElse with hElse | hElse <;> rw [takePowerOnRelease, hElse]

end Sys2Proof.Machine

namespace Sys2Proof.Machine

/-! # What the registers read (10_register_reference.md) -/

/-! ## The reset state -/

theorem reset_inv : Inv State.reset :=
  ⟨rfl, by unfold BoundsInv; decide, by unfold WaitingRecordInv; decide,
    ⟨rfl, fun h => (nomatch h), fun h => (nomatch h)⟩,
    ⟨fun h => (nomatch h), fun h => (nomatch h), fun _ h => (nomatch h)⟩, reset_panelInv rfl,
    fun h => (nomatch h), fun _ => ⟨rfl, fun _ h => (nomatch h), fun _ _ h => (nomatch h)⟩,
    by unfold SupplyInv; decide, reset_compositorInv rfl, fun h => (nomatch h),
    ⟨fun h => (nomatch h), fun _ h => (nomatch h), fun _ h => (nomatch h), fun h => (nomatch h)⟩,
    fun _ => ⟨rfl, rfl, rfl⟩, fun h => (nomatch h), fun h => (nomatch h), fun _ h => (nomatch h),
    ⟨fun _ h => (nomatch h), fun _ h => (nomatch h), fun _ _ h => (nomatch h),
      fun _ _ h => (nomatch h), fun _ h => (nomatch h), fun _ _ h => (nomatch h)⟩⟩

theorem reset_tearFree : TearFree State.reset := fun _ h => (nomatch h)

/-! ## Fields at their positions -/

theorem toNat_ofNat_of_lt {w n : Nat} (h : n < 2 ^ w) : (BitVec.ofNat w n).toNat = n := by
  rw [BitVec.toNat_ofNat, Nat.mod_eq_of_lt h]

/-- A field narrower than its register reads as itself. -/
theorem toNat_setWidth_byte {w : Nat} (h : w ≤ 8) (x : BitVec w) : (x.setWidth 8).toNat = x.toNat := by
  rw [BitVec.toNat_setWidth, Nat.mod_eq_of_lt]
  exact x.isLt.trans_le (Nat.pow_le_pow_right (by decide) h)

theorem toNat_loByte (w : Word) : (loByte w).toNat = w.toNat % 256 := by
  simp [loByte]

/-- A pair reads as its two bytes (R164). -/
theorem toNat_pair (w : Word) : (loByte w).toNat + 256 * (hiByte w).toNat = w.toNat := by
  have hLt := w.isLt
  simp only [hiByte, loByte, BitVec.toNat_setWidth, BitVec.toNat_ushiftRight,
    Nat.shiftRight_eq_div_pow]
  omega

theorem scanConfig_toNat : ∀ (commons divider : BitVec 2) (reverse : Bool),
    (ScanConfig.toByte ⟨commons, divider, reverse⟩).toNat =
      commons.toNat + 4 * divider.toNat + 16 * reverse.toNat := by decide

theorem blinkSetting_toNat : ∀ (on off : BitVec 4),
    (BlinkSetting.toByte ⟨on, off⟩).toNat = on.toNat + 16 * off.toNat := by decide

theorem scanPosition_toNat : ∀ (r : Fin 20) (negative : Bool),
    (BitVec.ofNat 8 r.val ||| bitAt 5 negative ||| bitAt 6 true).toNat =
      r.val + 64 + 32 * negative.toNat := by decide

theorem pendingPage_toNat : ∀ p : Fin 4,
    (bitAt 7 true ||| BitVec.ofNat 8 p.val).toNat = 128 + p.val := by decide

theorem zoneSelect_toNat : ∀ (i : Fin 8) (active : Bool),
    (BitVec.ofNat 8 i.val ||| bitAt 3 active).toNat = i.val + 8 * active.toNat := by decide

theorem readEngineState_toNat (s : State) : (readEngineState s).toNat =
    (match s.engine.state with
      | .idle => 0 | .running => 1 | .held => 2 | .waiting => 3 | .stalled => 4
      | .faultPending => 5 | .halted => 6 | .paused => 7) +
    8 * s.engine.pauseRequested.toNat + 16 * s.engine.current.isSome.toNat +
    32 * (match s.engine.holdReason with | .none => 0 | .page => 1 | .present => 2) := by
  have hFlags : ∀ pause current : Bool, ∀ state < (8 : Nat), ∀ reason < (3 : Nat),
      (BitVec.ofNat 8 state ||| bitAt 3 pause ||| bitAt 4 current |||
        BitVec.ofNat 8 reason <<< 5).toNat =
      state + 8 * pause.toNat + 16 * current.toNat + 32 * reason := by decide
  unfold readEngineState
  cases s.engine.state <;> cases s.engine.holdReason <;> exact hFlags _ _ _ (by decide) _ (by decide)

theorem readPanelState_toNat (s : State) : (readPanelState s).toNat =
    (match s.panel.state with
      | .off => 0 | .charging => 1 | .blanked => 2 | .showing => 3 | .stopping => 4
      | .discharging => 5) +
    8 * (match s.panel.pending with | .none => 0 | .show => 1 | .blank => 2) +
    32 * s.panel.showAfterCharge.toNat := by
  unfold readPanelState
  cases s.panel.state <;> cases s.panel.pending <;> cases s.panel.showAfterCharge <;> rfl

theorem effectByte_toNat (z : ZoneEntry) : z.effectByte.toNat = z.enable.toNat +
    (match z.effect with | .invert => 0 | .blank => 2 | .blinkOff => 4 | .blinkInvert => 6) +
    (match z.group with | .a => 0 | .b => 8) := by
  unfold ZoneEntry.effectByte
  cases z.enable <;> cases z.effect <;> cases z.group <;> rfl

/-- A request register and an unassigned offset read 00h (R163). -/
theorem readRegister_unassigned (s : State) {o : BitVec 6}
    (h : o = 0x06#6 ∨ o = 0x08#6 ∨ o = 0x23#6 ∨ 0x37 ≤ o.toNat) : readRegister s o = 0#8 := by
  rcases h with rfl | rfl | rfl | h
  · rfl
  · rfl
  · rfl
  · unfold readRegister
    split <;> first | rfl | omega

/-- Settles O56, register by register. -/
theorem theResetStateMeetsTheInvariants : Obligations.TheResetStateMeetsTheInvariants := by
  refine ⟨reset_inv, reset_tearFree, by decide, fun s value hValue => ?_⟩
  refine ⟨hValue _, hValue _, (hValue _).trans (readEngineState_toNat s), fun hQueue => ?_,
    fun hRing => ?_, ?_, hValue _, hValue _, ?_, ?_, ?_, ?_, hValue _, hValue _, ?_, ?_,
    ?_, fun hRuns hRow => ?_, fun hStopped => ?_, ?_, hValue _, ?_, ?_,
    (hValue _).trans (readPanelState_toNat s), ?_, ?_, ?_, ?_, ?_, ?_, irqStatusLo_getLsbD s, ?_,
    hValue _, ?_, ?_, ?_, fun o ho => ?_⟩
  · exact (hValue _).trans (toNat_ofNat_of_lt (by omega))
  · exact (hValue _).trans (toNat_ofNat_of_lt (by omega))
  · refine (hValue _).trans ?_
    show (readCurrentTag s).toNat = _
    unfold readCurrentTag
    cases s.engine.current <;> rfl
  · exact (hValue _).trans (toNat_setWidth_byte (by decide) _)
  · rw [hValue, hValue]
    exact toNat_pair _
  · rw [hValue, hValue]
    exact toNat_pair _
  · rw [hValue, hValue]
    exact toNat_pair _
  · exact (hValue _).trans (toNat_ofNat_of_lt (by omega))
  · refine (hValue _).trans ?_
    show (readPendingPage s).toNat = _
    unfold readPendingPage
    cases s.pages.pending with
    | none => rfl
    | some p => exact pendingPage_toNat p
  · rintro o c (⟨rfl, rfl⟩ | ⟨rfl, rfl⟩) <;> exact (hValue _).trans (scanConfig_toNat _ _ _)
  · refine (hValue _).trans ?_
    show (readScanPosition s).toNat = _
    rw [readScanPosition, if_pos hRuns, scanPosition_toNat ⟨_, hRow⟩]
    cases s.scanner.polarity <;> rfl
  · refine (hValue _).trans ?_
    show (readScanPosition s).toNat = _
    rw [readScanPosition, if_neg (by simp [hStopped])]
    rfl
  · exact (hValue _).trans (toNat_loByte _)
  · rintro o b (⟨rfl, rfl⟩ | ⟨rfl, rfl⟩) <;> exact (hValue _).trans (blinkSetting_toNat _ _)
  · refine (hValue _).trans ?_
    show (readBlinkPhase s).toNat = _
    unfold readBlinkPhase
    cases s.compositor.blinkA.phase <;> cases s.compositor.blinkB.phase <;> rfl
  · exact (hValue _).trans (toNat_setWidth_byte (by decide) _)
  · exact (hValue _).trans (toNat_setWidth_byte (by decide) _)
  · exact (hValue _).trans (toNat_setWidth_byte (by decide) _)
  · refine (hValue _).trans ?_
    show (readSupply s).toNat = _
    unfold readSupply
    cases s.supply.enabled <;> cases s.supply.state <;> rfl
  · rw [hValue, hValue]
    exact toNat_pair _
  · refine (hValue _).trans ?_
    show (bitAt 0 (s.port.step == .eight)).toNat = _
    cases s.port.step <;> rfl
  · refine (hValue _).trans ?_
    show (irqStatusHi s).toNat = _
    unfold irqStatusHi
    cases s.irq.overrun <;> cases s.irq.reject <;> cases s.irq.refused <;> rfl
  · exact (hValue _).trans (toNat_setWidth_byte (by decide) _)
  · exact (hValue _).trans (zoneSelect_toNat _ _)
  · rintro _ rfl
    exact ⟨(hValue _).trans (toNat_setWidth_byte (by decide) _),
      (hValue _).trans (toNat_setWidth_byte (by decide) _),
      (hValue _).trans (toNat_setWidth_byte (by decide) _),
      (hValue _).trans (toNat_setWidth_byte (by decide) _),
      (hValue _).trans (effectByte_toNat (selectedZone s))⟩
  · rw [hValue, readRegister_unassigned s ho]
    rfl

end Sys2Proof.Machine

namespace Sys2Proof.Machine

/-! # The engine side of a legal state

Queue, ring, engine, presentation and arbiter together, before the arbiter has served: what every ending,
beginning and judgement of a command brings about, and what takes and grant ends keep. -/

/-- The legal states of queue, ring, engine, presentation and arbiter, but for a request that waits while
memory is free. -/
structure Serving (s : State) : Prop where
  bounds : BoundsInv s
  record : WaitingRecordInv s
  engine : EngineInv s
  present : PresentInv s
  drawing : DrawingInv s
  dropped : DroppedInv s
  arbiter : ArbiterFits s.engine s.arbiter

/-- The legal states of queue, ring, engine, presentation and arbiter. -/
def EngineSide (s : State) : Prop := Serving s ∧ ArbiterBusyInv s

/-! ## The invariants as the statement gives them -/

theorem arbiterFits_of_inv {s : State} (hAccess : EngineAccessInv s) (hService : ServiceInv s)
    (hMapped : MappedInv s) : ArbiterFits s.engine s.arbiter := by
  obtain ⟨hOne, hRequest, hGrant, hAsks⟩ := hAccess
  obtain ⟨hPortRequest, hPortGrant, hEngineRequest, hEngineGrant, hRowRequest, hRowGrant⟩ := hMapped
  refine ⟨fun e he e' hg => ?_, fun e he hd => ?_, fun hRunning => (engineBusy_iff s).mp (hAsks hRunning),
    fun hOwed => ⟨(hService hOwed).1, (hService hOwed).2.1⟩, fun p hp => ?_, fun e he a ha => ?_,
    fun r hr => ?_⟩
  · have hNone := hOne (by rw [he]; rfl)
    rw [hg] at hNone
    cases hNone
  · exact he.elim (fun he => hRequest e he hd) (fun he => hGrant e he hd)
  · exact hp.elim (hPortRequest p) (hPortGrant p)
  · exact he.elim (fun he => hEngineRequest e a he ha) (fun he => hEngineGrant e a he ha)
  · exact hr.elim (hRowRequest r) fun ⟨p, hp⟩ => hRowGrant r p hp

theorem engineSide_of_inv {s : State} (h : Inv s) : EngineSide s := by
  obtain ⟨-, hBounds, hRecord, hEngine, hPresent, -, -, -, -, -, -, hAccess, hBusy, hService, hDropped,
    hDrawing, hMapped⟩ := h
  exact ⟨⟨hBounds, hRecord, hEngine, hPresent, hDrawing, hDropped,
    arbiterFits_of_inv hAccess hService hMapped⟩, hBusy⟩

theorem EngineSide.engineAccessInv {s : State} (h : EngineSide s) : EngineAccessInv s := by
  obtain ⟨h, -⟩ := h
  refine ⟨fun hSome => ?_, fun e he => h.arbiter.current e (.inl he),
    fun e he => h.arbiter.current e (.inr he), fun hRunning =>
      (engineBusy_iff s).mpr (h.arbiter.asks hRunning)⟩
  obtain ⟨e, he⟩ := Option.isSome_iff_exists.mp hSome
  have hOne := h.arbiter.oneAccess e he
  cases hg : s.arbiter.grant with
  | none => rfl
  | some g =>
    cases g with
    | engine e' => exact absurd hg (hOne e')
    | row r p => rfl
    | port p => rfl

theorem EngineSide.serviceInv {s : State} (h : EngineSide s) : ServiceInv s := by
  obtain ⟨h, hBusy⟩ := h
  intro hOwed
  obtain ⟨hSome, hPort⟩ := h.arbiter.owed hOwed
  obtain ⟨e, he⟩ := Option.isSome_iff_exists.mp hSome
  refine ⟨hSome, hPort, ?_⟩
  cases hg : s.arbiter.grant with
  | none => exact nomatch (hBusy hg).2.2.symm.trans he
  | some g =>
    cases g with
    | engine e' => exact absurd hg (h.arbiter.oneAccess e he e')
    | row r p => exact ⟨_, rfl, rfl⟩
    | port p => exact ⟨_, rfl, rfl⟩

theorem Serving.mappedInv {s : State} (h : Serving s) : MappedInv s :=
  ⟨fun p hp => h.arbiter.portMapped p (.inl hp), fun p hp => h.arbiter.portMapped p (.inr hp),
    fun e a he ha => h.arbiter.engineMapped e (.inl he) a ha,
    fun e a he ha => h.arbiter.engineMapped e (.inr he) a ha,
    fun r hr => h.arbiter.rowInPage r (.inl hr), fun r p hr => h.arbiter.rowInPage r (.inr ⟨p, hr⟩)⟩

/-! ## What does not touch the engine side -/

theorem droppedInv_of_none {s : State} (h : ∀ e, s.arbiter.holdsEngine e → e.dropped = false) :
    DroppedInv s := by
  intro hDropped
  obtain ⟨e, he, hd⟩ := (droppedOutstanding_iff s).mp hDropped
  exact Bool.noConfusion (hd.symm.trans (h e he))

/-- No access is dropped where none is outstanding. -/
theorem not_dropped_of_not_outstanding {s : State} (h : accessOutstanding s = false) :
    ∀ e, s.arbiter.holdsEngine e → e.dropped = false := by
  intro e he
  by_contra hd
  rw [Bool.not_eq_false] at hd
  have hOut : droppedOutstanding s = true := (droppedOutstanding_iff s).mpr ⟨e, he, hd⟩
  rw [accessOutstanding, hOut, Bool.or_true] at h
  cases h

theorem DroppedInv.of_arbiter {s t : State} (h : DroppedInv s) (hEngine : t.engine = s.engine)
    (hQueue : t.queue = s.queue) (hPages : t.pages = s.pages)
    (hAccess : ∀ e, t.arbiter.holdsEngine e → e.dropped = true → s.arbiter.holdsEngine e)
    (hPort : ∀ p, t.arbiter.holdsPort p → s.arbiter.holdsPort p) : DroppedInv t := by
  intro hDropped
  obtain ⟨e, he, hd⟩ := (droppedOutstanding_iff t).mp hDropped
  have hAll := h ((droppedOutstanding_iff s).mpr ⟨e, hAccess e he hd, hd⟩)
  rw [hEngine, hQueue, hPages]
  refine ⟨hAll.1, hAll.2.1, hAll.2.2.1, ?_⟩
  rw [Bool.eq_false_iff, Ne, portBusy_iff]
  rintro ⟨p, hp⟩
  have hBusy : portBusy s = true := (portBusy_iff s).mpr ⟨p, hPort p hp⟩
  rw [hAll.2.2.2] at hBusy
  cases hBusy

/-- Where queue, ring, engine and pages stand and a running scan goes on, only the arbiter matters. -/
theorem Serving.of_blocks {s t : State} (h : Serving s) (hQueue : t.queue = s.queue)
    (hRing : t.ring = s.ring) (hThreshold : t.spaceThreshold = s.spaceThreshold)
    (hEngine : t.engine = s.engine) (hPages : t.pages = s.pages)
    (hRuns : scanRunning s = true → scanRunning t = true)
    (hArbiter : ArbiterFits t.engine t.arbiter) (hDropped : DroppedInv t) : Serving t where
  bounds := by
    have := h.bounds
    rwa [BoundsInv, ← hQueue, ← hRing, ← hThreshold] at this
  record := by
    have := h.record
    rwa [WaitingRecordInv, ← hEngine, ← hRing] at this
  engine := by
    have := h.engine
    rwa [EngineInv, ← hEngine, ← hQueue] at this
  present := by
    obtain ⟨hPending, hHeld, hWaiting⟩ := h.present
    rw [PresentInv, hPages, hEngine]
    refine ⟨fun hp => hRuns (hPending hp), hHeld, fun c hs hc => ?_⟩
    exact ⟨(hWaiting c hs hc).1, fun hk => hRuns ((hWaiting c hs hc).2 hk)⟩
  drawing := by
    have := h.drawing
    rwa [DrawingInv, ← hEngine] at this
  dropped := hDropped
  arbiter := hArbiter

/-- Nothing of the engine side has changed, and a running scan goes on. -/
theorem Serving.of_same {s t : State} (h : Serving s) (hQueue : t.queue = s.queue)
    (hRing : t.ring = s.ring) (hThreshold : t.spaceThreshold = s.spaceThreshold)
    (hEngine : t.engine = s.engine) (hPages : t.pages = s.pages) (hArbiter : t.arbiter = s.arbiter)
    (hRuns : scanRunning s = true → scanRunning t = true) : Serving t :=
  h.of_blocks hQueue hRing hThreshold hEngine hPages hRuns (by rw [hEngine, hArbiter]; exact h.arbiter)
    (h.dropped.of_arbiter hEngine hQueue hPages (fun _ he _ => hArbiter ▸ he) fun _ hp => hArbiter ▸ hp)

theorem EngineSide.of_same {s t : State} (h : EngineSide s) (hQueue : t.queue = s.queue)
    (hRing : t.ring = s.ring) (hThreshold : t.spaceThreshold = s.spaceThreshold)
    (hEngine : t.engine = s.engine) (hPages : t.pages = s.pages) (hArbiter : t.arbiter = s.arbiter)
    (hRuns : scanRunning s = true → scanRunning t = true) : EngineSide t := by
  refine ⟨h.1.of_same hQueue hRing hThreshold hEngine hPages hArbiter hRuns, ?_⟩
  rw [ArbiterBusyInv, hArbiter]
  exact h.2

/-- The arbiter serves. -/
theorem Serving.arbitrate {s : State} (h : Serving s) : EngineSide (arbitrate s) := by
  have hServes := arbitrate_serves s
  refine ⟨h.of_blocks (by simp) (by simp) (by simp) (by simp) (by simp) ?_ ?_ ?_, arbitrate_busy s⟩
  · obtain ⟨b, hFrame⟩ := arbitrate_frame s
    rw [hFrame]
    exact id
  · rw [arbitrate_engine]
    exact h.arbiter.serves hServes
  · exact h.dropped.of_arbiter (by simp) (by simp) (by simp)
      (fun e he _ => (hServes.holdsEngine e).mp he) fun p hp => (hServes.holdsPort p).mp hp

/-! ## A command on its way to an ending or a beginning -/

/-- A state in which command `c` is current and has no access at the arbiter. -/
structure Disposing (c : Current) (s : State) : Prop where
  bounds : BoundsInv s
  current : s.engine.current = some c
  noRecord : s.engine.waitingRecord = none
  notDue : s.engine.takeDue = false
  pendingRuns : s.pages.pending.isSome = true → scanRunning s = true
  quiet : ArbiterQuiet s.arbiter

theorem ArbiterQuiet.droppedInv {b : Arbiter} (h : ArbiterQuiet b) {s : State} (hb : s.arbiter = b) :
    DroppedInv s :=
  droppedInv_of_none fun e he => absurd (hb ▸ he) (h.noAccess e)

theorem drawingInv_of_none {s : State} (h : s.engine.current = none) : DrawingInv s := by
  intro c hc
  rw [h] at hc
  cases hc

/-- The engine that goes on stands in PAUSED or IDLE, with the take due where an entry waits (R51). -/
theorem goOn_serving {s : State} (hBounds : BoundsInv s)
    (hPending : s.pages.pending.isSome = true → scanRunning s = true) (hDropped : DroppedInv (goOn s))
    (hArbiter : ∀ g : Engine, g.state ≠ .running → ArbiterFits g s.arbiter) : Serving (goOn s) := by
  have hState : (goOn s).engine.state = .paused ∨ (goOn s).engine.state = .idle := by
    unfold goOn
    cases s.engine.pauseRequested <;> simp
  have hOut : (goOn s).engine.state ≠ .running ∧ (goOn s).engine.state ≠ .waiting ∧
      (goOn s).engine.state ≠ .held ∧ (goOn s).engine.state ≠ .stalled ∧
      (goOn s).engine.state ≠ .faultPending := by
    rcases hState with h | h <;> rw [h] <;> decide
  refine ⟨hBounds, ⟨?_, fun h => (nomatch h), hBounds.2.1⟩, ⟨?_, fun h => (nomatch h), fun h => ?_⟩,
    ⟨hPending, fun h => absurd h hOut.2.2.1, fun c h => absurd h hOut.2.1⟩,
    drawingInv_of_none rfl, hDropped, hArbiter _ hOut.1⟩
  · have hNone : (goOn s).engine.waitingRecord = none := rfl
    rw [hNone]
    exact ⟨fun h => (nomatch h), fun h => h.elim (absurd · hOut.2.2.2.1) (absurd · hOut.2.2.2.2)⟩
  · unfold goOn
    cases s.engine.pauseRequested <;> rfl
  · unfold goOn at h ⊢
    revert h
    cases s.engine.pauseRequested <;> simp

/-- A record that the full ring cannot take waits in STALLED or FAULT_PENDING (R50, R41, R95). -/
theorem Disposing.recordWaits {c : Current} {s : State} (h : Disposing c s) {state : EngineState}
    (hState : state = .stalled ∨ state = .faultPending) (hFull : ¬ s.ring.length < ringCapacity)
    (r : Record) : Serving (s.withEngine { s.engine with
      state := state, holdReason := .none, waitingRecord := some r }) := by
  have hLength : s.ring.length = 8 := by
    have := h.bounds.2.1
    unfold ringCapacity at hFull
    omega
  have hOut : state ≠ .running ∧ state ≠ .waiting ∧ state ≠ .held := by
    rcases hState with h | h <;> rw [h] <;> decide
  have hEngine : EngineInv (s.withEngine { s.engine with
      state := state, holdReason := .none, waitingRecord := some r }) := by
    refine ⟨?_, fun _ => ?_, fun hd => Bool.noConfusion (h.notDue.symm.trans hd)⟩
    · rcases hState with rfl | rfl <;> simp [h.current]
    · rcases hState with rfl | rfl <;> simp
  exact ⟨h.bounds, ⟨iff_of_true rfl hState, fun _ => hLength, h.bounds.2.1⟩, hEngine,
    ⟨h.pendingRuns, fun hs => absurd hs hOut.2.2, fun _ hs => absurd hs hOut.2.1⟩,
    fun _ _ _ hs hf => (hState.elim (absurd · hs) (absurd · hf)), h.quiet.droppedInv rfl,
    h.quiet.fits hOut.1⟩

theorem boundsInv_append {s : State} (h : BoundsInv s) (hRoom : s.ring.length < ringCapacity)
    (r : Record) : BoundsInv (s.withRing (s.ring ++ [r])) := by
  obtain ⟨hQueue, -, hThreshold⟩ := h
  refine ⟨hQueue, ?_, hThreshold⟩
  rw [State.withRing_ring, List.length_append]
  exact hRoom

section
variable {c : Current} {s : State} (h : Disposing c s)
include h

theorem Disposing.goOn (ring : List Record) (hRing : ring.length ≤ 8) :
    Serving (goOn (s.withRing ring)) :=
  goOn_serving ⟨h.bounds.1, hRing, h.bounds.2.2⟩ h.pendingRuns (h.quiet.droppedInv rfl)
    fun _ hg => h.quiet.fits hg

/-- A normal ending leaves a legal state (R50, R51). -/
theorem Disposing.complete (status : Status) (progress : Nat) (clipped held : Bool) :
    Serving (complete status progress clipped held s) := by
  rw [complete_eq h.current, endsNormally]
  split
  · split
    · rename_i hRoom
      exact h.goOn _ (boundsInv_append h.bounds hRoom _).2.1
    · rename_i hFull
      exact h.recordWaits (.inl rfl) hFull _
  · exact h.goOn s.ring h.bounds.2.1

/-- A fault leaves a legal state (R41, R53). -/
theorem Disposing.faultWith (status : Status) : Serving (faultWith status s) := by
  rw [faultWith_eq h.current, endsInFault]
  split
  · rename_i hRoom
    have hBounds := boundsInv_append h.bounds hRoom ⟨c.entry.tag, c.entry.kind, status, 0, false, c.heldOnce⟩
    exact ⟨hBounds, ⟨by simp, fun hw => (nomatch hw), hBounds.2.1⟩,
      ⟨rfl, fun _ => by simp, fun hd => Bool.noConfusion (h.notDue.symm.trans hd)⟩,
      ⟨h.pendingRuns, fun hs => (nomatch hs), fun _ hs => (nomatch hs)⟩,
      drawingInv_of_none rfl, h.quiet.droppedInv rfl, h.quiet.fits (by simp)⟩
  · rename_i hFull
    exact h.recordWaits (.inr rfl) hFull _

/-- A running command inside its work asks for its next access (R12, R49). -/
theorem Disposing.raiseEngine (hState : s.engine.state = .running) (hReason : s.engine.holdReason = .none)
    (hWork : c.InWork) : Serving (raiseEngine s) := by
  obtain ⟨a, hNext, hMapped⟩ := hWork.nextAccess
  have hIdle : ¬ engineBusy s = true := by
    rw [engineBusy_iff]
    rintro ⟨e, he⟩
    exact h.quiet.noAccess e he
  have hRaise : Machine.raiseEngine s =
      Machine.arbitrate (s.withArbiter { s.arbiter with engineRequest := some ⟨a, false⟩ }) := by
    unfold Machine.raiseEngine
    simp only [hState, h.current, if_neg hIdle, hNext]
  have hFits := h.quiet.asked (g := s.engine) (dropped := false) (fun _ => hState)
    (fun _ => by rw [h.current, Option.bind_some, hNext]) hMapped
  rw [hRaise]
  refine (Serving.arbitrate (s := s.withArbiter { s.arbiter with engineRequest := some ⟨a, false⟩ })
    ⟨h.bounds, ⟨?_, fun hw => ?_, h.bounds.2.1⟩, ⟨?_, fun _ => .inl hState,
    fun hd => Bool.noConfusion (h.notDue.symm.trans hd)⟩, ⟨h.pendingRuns, fun hs => ?_, fun _ hs => ?_⟩,
    ?_, droppedInv_of_none fun e he => ?_, hFits⟩).1
  · simp [h.noRecord, hState]
  · simp [h.noRecord] at hw
  · simp only [State.withArbiter_engine, hState, h.current]
    exact ⟨hWork.drawing, hReason⟩
  · exact nomatch hState.symm.trans hs
  · exact nomatch hState.symm.trans hs
  · intro c' hc _ _ _
    cases h.current.symm.trans hc
    exact ⟨hWork.check, fun hNot => absurd hState hNot, hWork.copy, fun hKind =>
      ⟨hWork.row hKind, hWork.reading hKind, hWork.writing hKind⟩⟩
  · rcases he with he | he
    · cases he
      rfl
    · exact absurd (.inr he) (h.quiet.noAccess e)

end

theorem Disposing.withEngine {c c' : Current} {s : State} (h : Disposing c s) {g : Engine}
    (hCurrent : g.current = some c') (hRecord : g.waitingRecord = s.engine.waitingRecord)
    (hDue : g.takeDue = s.engine.takeDue) : Disposing c' (s.withEngine g) :=
  ⟨h.bounds, hCurrent, hRecord.trans h.noRecord, hDue.trans h.notDue, h.pendingRuns, h.quiet⟩

theorem Current.Fresh.withClipped {c : Current} (h : c.Fresh) (b : Bool) :
    Current.Fresh { c with clipped := b } := ⟨h.1, h.2, h.3, h.4⟩

/-- A COPY or STAMP whose checks have passed begins (R40, R74). -/
theorem Disposing.beginDrawing {c : Current} {s : State} (h : Disposing c s)
    (hDrawing : c.entry.kind = .copy ∨ c.entry.kind = .stamp) (hCheck : c.entry.check = none)
    (hFresh : c.Fresh) : Serving (beginDrawing s) := by
  unfold Machine.beginDrawing
  simp only [h.current]
  exact Disposing.raiseEngine (h.withEngine rfl rfl rfl) rfl rfl
    ((hFresh.withClipped _).inWork hDrawing hCheck)

/-- A held command (R43, R44). -/
theorem Disposing.hold {c : Current} {s : State} (h : Disposing c s) {reason : HoldReason}
    (hPending : s.pages.pending.isSome = true) (hPause : s.engine.pauseRequested = false)
    (hKind : (reason = .page ∧ (c.entry.kind = .copy ∨ c.entry.kind = .stamp)) ∨
      (reason = .present ∧ c.entry.kind = .present))
    (hFresh : c.entry.kind = .copy ∨ c.entry.kind = .stamp → c.entry.check = none ∧ c.Fresh) :
    Serving (hold reason s) := by
  rw [hold_eq h.current]
  refine ⟨h.bounds, ⟨?_, fun hw => ?_, h.bounds.2.1⟩, ⟨⟨rfl, hKind⟩, fun hp => ?_, fun hd => ?_⟩,
    ⟨h.pendingRuns, fun _ => hPending, fun _ hs => (nomatch hs)⟩, ?_, h.quiet.droppedInv rfl,
    h.quiet.fits (by simp)⟩
  · simp [h.noRecord]
  · simp [h.noRecord] at hw
  · exact Bool.noConfusion (hPause.symm.trans hp)
  · exact Bool.noConfusion (h.notDue.symm.trans hd)
  · intro c' hc hDrawing _ _
    cases hc
    obtain ⟨hCheck, hNew⟩ := hFresh hDrawing
    have hWork := hNew.inWork hDrawing hCheck
    exact ⟨hCheck, fun _ => ⟨hNew.1, hNew.2, hNew.3, hNew.4⟩, hWork.copy, fun hStamp =>
      ⟨hWork.row hStamp, hWork.reading hStamp, hWork.writing hStamp⟩⟩

/-- The hold rule begins, holds or faults its command (R43). -/
theorem Disposing.holdRule {c : Current} {s : State} (h : Disposing c s)
    (hPause : s.engine.pauseRequested = false)
    (hDrawing : c.entry.kind = .copy ∨ c.entry.kind = .stamp) (hCheck : c.entry.check = none)
    (hFresh : c.Fresh) : Serving (holdRule s) := by
  by_cases hRule : HoldRuleAllows c.entry s
  · rw [holdRule_begins h.current hRule]
    exact h.beginDrawing hDrawing hCheck hFresh
  · cases hPending : s.pages.pending with
    | none =>
      rw [holdRule_faults h.current hRule hPending]
      exact h.faultWith _
    | some q =>
      have hSome : s.pages.pending.isSome = true := by rw [hPending]; rfl
      rw [holdRule_holds h.current hRule hSome]
      exact h.hold hSome hPause (.inl ⟨rfl, hDrawing⟩) fun _ => ⟨hCheck, hFresh⟩

/-- A command that waits: a WAIT, or a PRESENT with its page pending (R54, R57). -/
theorem Disposing.waits {c : Current} {s : State} (h : Disposing c s) (hRuns : scanRunning s = true)
    (hReason : s.engine.holdReason = .none)
    (hKind : c.entry.kind = .wait ∨
      (c.entry.kind = .present ∧ s.pages.pending = some c.entry.presentPage)) :
    Serving (s.withEngine { s.engine with state := .waiting }) := by
  have hNotDrawing : ¬ (c.entry.kind = .copy ∨ c.entry.kind = .stamp) := by
    rcases hKind with h | ⟨h, -⟩ <;> simp [h]
  refine ⟨h.bounds, ⟨?_, fun hw => ?_, h.bounds.2.1⟩, ⟨?_, fun _ => ?_, fun hd => ?_⟩,
    ⟨h.pendingRuns, fun hs => (nomatch hs), ?_⟩, ?_, h.quiet.droppedInv rfl,
    h.quiet.fits (by simp)⟩
  · simp [h.noRecord]
  · simp [h.noRecord] at hw
  · simp only [State.withEngine_engine, h.current]
    exact ⟨hKind.imp_right And.left, hReason⟩
  · simp
  · exact Bool.noConfusion (h.notDue.symm.trans hd)
  · intro c' _ hc
    cases h.current.symm.trans hc
    refine ⟨fun hPresent => ?_, fun _ => hRuns⟩
    rcases hKind with hWait | ⟨-, hPending⟩
    · exact nomatch hPresent.symm.trans hWait
    · exact hPending
  · intro c' hc hDrawing
    cases h.current.symm.trans hc
    exact absurd hDrawing hNotDrawing

/-- The hand-over of a PRESENT (R57, R104, R105). -/
theorem Disposing.handOver {c : Current} {s : State} (h : Disposing c s)
    (hKind : c.entry.kind = .present) :
    Serving (handOver s) := by
  unfold Machine.handOver
  simp only [h.current]
  split
  · rename_i hRuns
    have hPages : Disposing c (s.withPages { s.pages with pending := some c.entry.presentPage }) :=
      ⟨h.bounds, h.current, h.noRecord, h.notDue, fun _ => hRuns, h.quiet⟩
    split
    · exact Disposing.waits (s := (s.withPages { s.pages with
        pending := some c.entry.presentPage }).withEngine { s.engine with holdReason := .none })
        (hPages.withEngine h.current rfl rfl) hRuns rfl (.inr ⟨hKind, rfl⟩)
    · exact hPages.complete _ _ _ _
  · rename_i hStopped
    exact Disposing.complete (s := s.withPages { s.pages with shown := c.entry.presentPage })
      ⟨h.bounds, h.current, h.noRecord, h.notDue, h.pendingRuns, h.quiet⟩ _ _ _ _

end Sys2Proof.Machine

namespace Sys2Proof.Machine

/-! # What takes and grant ends keep of the engine side -/

/-! ## A current command outside RUNNING -/

section
variable {s : State} (h : Serving s)
include h

/-- While an access of a dropped command is outstanding nothing is current and nothing waits (R16). -/
theorem Serving.not_dropped (hWork : s.queue ≠ [] ∨ s.engine ≠ Engine.reset) :
    ∀ e, s.arbiter.holdsEngine e → e.dropped = false := by
  intro e he
  by_contra hd
  rw [Bool.not_eq_false] at hd
  obtain ⟨hEngine, hQueue, -, -⟩ := h.dropped ((droppedOutstanding_iff s).mpr ⟨e, he, hd⟩)
  exact hWork.elim (absurd hQueue) (absurd hEngine)

theorem Serving.quiet (hState : s.engine.state ≠ .running)
    (hWork : s.queue ≠ [] ∨ s.engine ≠ Engine.reset) : ArbiterQuiet s.arbiter :=
  h.arbiter.quiet fun e he => hState (h.arbiter.current e he (h.not_dropped hWork e he)).1

theorem Serving.not_idle {c : Current} (hCurrent : s.engine.current = some c) :
    s.engine.state ≠ .idle := by
  intro hIdle
  have hEngine := h.engine.1
  simp only [hIdle, hCurrent] at hEngine

theorem Serving.notDue (hState : s.engine.state ≠ .idle) : s.engine.takeDue = false := by
  by_contra hDue
  exact hState (h.engine.2.2 (Bool.not_eq_false _ ▸ hDue)).1

theorem Serving.noRecord (hStalled : s.engine.state ≠ .stalled)
    (hPending : s.engine.state ≠ .faultPending) : s.engine.waitingRecord = none := by
  by_contra hSome
  exact (h.record.1.mp (Option.isSome_iff_ne_none.mpr hSome)).elim hStalled hPending

omit h in
theorem ne_reset_of_current {c : Current} (hCurrent : s.engine.current = some c) :
    s.engine ≠ Engine.reset := by
  intro hReset
  rw [hReset] at hCurrent
  cases hCurrent

/-- A command that is held, PAUSED or waiting is on its way to an ending or a beginning. -/
theorem Serving.disposing {c : Current} (hCurrent : s.engine.current = some c)
    (hState : s.engine.state ≠ .running) (hStalled : s.engine.state ≠ .stalled)
    (hPending : s.engine.state ≠ .faultPending) : Disposing c s :=
  ⟨h.bounds, hCurrent, h.noRecord hStalled hPending, h.notDue (h.not_idle hCurrent), h.present.1,
    h.quiet hState (.inr (ne_reset_of_current hCurrent))⟩

/-- A COPY or STAMP that is current and does not run has passed its checks and not begun (R38). -/
theorem Serving.fresh {c : Current} (hCurrent : s.engine.current = some c)
    (hState : s.engine.state ≠ .running) (hStalled : s.engine.state ≠ .stalled)
    (hPending : s.engine.state ≠ .faultPending)
    (hKind : c.entry.kind = .copy ∨ c.entry.kind = .stamp) : c.entry.check = none ∧ c.Fresh := by
  obtain ⟨hCheck, hNew, -, -⟩ := h.drawing c hCurrent hKind hStalled hPending
  obtain ⟨hProgress, hIndex, hPhase, hByte⟩ := hNew hState
  exact ⟨hCheck, ⟨hProgress, hIndex, hPhase, hByte⟩⟩

/-- A running command stands inside its work. -/
theorem Serving.inWork {c : Current} (hState : s.engine.state = .running)
    (hCurrent : s.engine.current = some c) : c.InWork ∧ s.engine.holdReason = .none := by
  have hEngine := h.engine.1
  simp only [hState, hCurrent] at hEngine
  obtain ⟨hKind, hReason⟩ := hEngine
  obtain ⟨hCheck, -, hCopy, hStamp⟩ :=
    h.drawing c hCurrent hKind (by simp [hState]) (by simp [hState])
  exact ⟨⟨hKind, hCheck, hCopy, fun hk => (hStamp hk).1, fun hk => (hStamp hk).2.1,
    fun hk => (hStamp hk).2.2⟩, hReason⟩

end

/-! ## The take -/

/-- The entry just taken is on its way. -/
theorem Serving.taken {s : State} (h : Serving s) {e : Entry} {rest : List Entry}
    (hIdle : s.engine.state = .idle) (hQueue : s.queue = e :: rest) :
    Disposing (Current.ofEntry e) (taken e rest s) := by
  refine ⟨⟨?_, h.bounds.2⟩, rfl, h.noRecord (by simp [hIdle]) (by simp [hIdle]), rfl, h.present.1,
    h.quiet (by simp [hIdle]) (.inl (by simp [hQueue]))⟩
  have hLength := h.bounds.1
  rw [hQueue, List.length_cons] at hLength
  exact Nat.le_of_succ_le hLength

/-- An IDLE engine has no command, no hold and no pause requested (R36). -/
theorem EngineInv.of_idle {s : State} (h : EngineInv s) (hState : s.engine.state = .idle) :
    s.engine.current = none ∧ s.engine.holdReason = .none ∧ s.engine.pauseRequested = false := by
  obtain ⟨hMatch, hPause, -⟩ := h
  have hNot : s.engine.pauseRequested = false := by
    by_contra hSome
    simpa [hState] using hPause (Bool.not_eq_false _ ▸ hSome)
  cases hc : s.engine.current with
  | none => simp only [hState, hc] at hMatch; exact ⟨rfl, hMatch, hNot⟩
  | some c => simp only [hState, hc] at hMatch

/-- The disposal of a kind leaves a legal state (R40). -/
theorem disposal_serving {s : State} {e : Entry} (h : Disposing (Current.ofEntry e) s)
    (hPause : s.engine.pauseRequested = false) (hReason : s.engine.holdReason = .none)
    (hCheck : e.check = none) : Serving (disposal e.kind e s) := by
  have hDrawing (hKind : e.kind = .copy ∨ e.kind = .stamp) : Serving (disposeDrawing e s) := by
    unfold disposeDrawing
    split
    · exact h.beginDrawing hKind hCheck (fresh_ofEntry e)
    · exact h.holdRule hPause hKind hCheck (fresh_ofEntry e)
  cases hKind : e.kind with
  | copy => exact hDrawing (.inl hKind)
  | stamp => exact hDrawing (.inr hKind)
  | present =>
    simp only [disposal, disposePresent]
    split
    · rename_i hPending
      exact h.hold hPending hPause (.inr ⟨rfl, hKind⟩) fun _ => ⟨hCheck, fresh_ofEntry e⟩
    · exact h.handOver hKind
  | zone =>
    apply Disposing.complete (c := Current.ofEntry e)
    exact ⟨h.bounds, h.current, h.noRecord, h.notDue, h.pendingRuns, h.quiet⟩
  | wait =>
    simp only [disposal, disposeWait]
    split
    · rename_i hRuns
      exact h.waits hRuns hReason (.inl hKind)
    · exact h.complete _ _ _ _
  | mark => exact h.complete _ _ _ _

theorem takeNext_serving {s : State} (h : Serving s) : Serving (takeNext s) := by
  by_cases hNone : s.engine.state ≠ .idle ∨ s.queue = []
  · rwa [takeNext_of_none hNone]
  · simp only [ne_eq, not_or, not_not] at hNone
    obtain ⟨e, rest, hQueue⟩ := List.exists_cons_of_ne_nil hNone.2
    have hTaken := h.taken hNone.1 hQueue
    obtain ⟨-, hReason, hPause⟩ := h.engine.of_idle hNone.1
    rw [takeNext_eq hNone.1 hQueue]
    cases hCheck : e.check with
    | some f => exact hTaken.faultWith f
    | none => exact disposal_serving hTaken hPause hReason hCheck

theorem takeNext_engineSide {s : State} (h : EngineSide s) : EngineSide (takeNext s) :=
  ⟨takeNext_serving h.1, (takeNext_mayAsk s).busy h.2⟩

/-! ## The end of a grant -/

/-- A command that runs, with no access at the arbiter. -/
structure Working (c : Current) (s : State) : Prop extends Disposing c s where
  running : s.engine.state = .running
  reason : s.engine.holdReason = .none

theorem Working.setCurrent {c : Current} {s : State} (h : Working c s) (c' : Current) :
    Working c' (setCurrent c' s) :=
  ⟨h.toDisposing.withEngine rfl rfl rfl, h.running, h.reason⟩

theorem Working.raiseEngine {c : Current} {s : State} (h : Working c s) (hWork : c.InWork) :
    Serving (raiseEngine s) :=
  h.toDisposing.raiseEngine h.running h.reason hWork

theorem kind_of_nextAccess_copyWrite {c : Current} {d : Nat} {v : Byte}
    (h : c.nextAccess = some (.copyWrite d v)) : c.entry.kind = .copy := by
  cases hKind : c.entry.kind with
  | copy => rfl
  | stamp => cases hPhase : c.phase <;> simp [Current.nextAccess, hKind, hPhase] at h
  | _ => simp [Current.nextAccess, hKind] at h

theorem kind_of_nextAccess_stampRead {c : Current} {a : Nat}
    (h : c.nextAccess = some (.stampRead a)) : c.entry.kind = .stamp := by
  cases hKind : c.entry.kind with
  | stamp => rfl
  | copy => cases hByte : c.copyByte <;> simp [Current.nextAccess, hKind, hByte] at h
  | _ => simp [Current.nextAccess, hKind] at h

theorem kind_of_nextAccess_stampModify {c : Current} {d : Nat} {mask bits : Byte}
    {operator : StampOperator} (h : c.nextAccess = some (.stampModify d mask bits operator)) :
    c.entry.kind = .stamp ∧ c.phase = .writing := by
  cases hKind : c.entry.kind with
  | stamp => cases hPhase : c.phase <;> simp [Current.nextAccess, hKind, hPhase] at h ⊢
  | copy => cases hByte : c.copyByte <;> simp [Current.nextAccess, hKind, hByte] at h
  | _ => simp [Current.nextAccess, hKind] at h

/-- A COPY byte written: the COPY ends or goes on inside its work (R68, R72). -/
theorem Working.copyByteWritten {c : Current} {s : State} (h : Working c s) (hWork : c.InWork)
    (hKind : c.entry.kind = .copy) : Serving (copyByteWritten s) := by
  have hSet := h.setCurrent { c with progress := c.progress + 1, copyByte := none }
  unfold Machine.copyByteWritten
  simp only [h.current]
  split_ifs with hNoted hLast
  · exact hSet.toDisposing.complete _ _ _ _
  · exact hSet.toDisposing.complete _ _ _ _
  · have hNotStamp : c.entry.kind ≠ .stamp := by simp [hKind]
    exact hSet.raiseEngine ⟨hWork.drawing, hWork.check, fun _ => Nat.lt_of_not_le hLast,
      fun hk => absurd hk hNotStamp, fun hk => absurd hk hNotStamp, fun hk => absurd hk hNotStamp⟩

/-- A STAMP byte combined: the STAMP ends, or goes on to its next byte or row (R79 to R81). -/
theorem Working.stampByteWritten {c : Current} {s : State} (h : Working c s) (hWork : c.InWork)
    (hKind : c.entry.kind = .stamp) (hPhase : c.phase = .writing) : Serving (stampByteWritten s) := by
  have hNotCopy : c.entry.kind ≠ .copy := by simp [hKind]
  unfold Machine.stampByteWritten
  simp only [h.current]
  split_ifs with hMore hNoted hLast
  · refine (h.setCurrent { c with byteIndex := c.byteIndex + 1 }).raiseEngine
      ⟨hWork.drawing, hWork.check, hWork.copy, hWork.row, fun _ hReading => ?_, fun _ _ => hMore⟩
    exact nomatch hPhase.symm.trans hReading
  all_goals
    have hSet := h.setCurrent
      { c with progress := c.progress + 1, phase := .reading, byteIndex := 0, rowBuffer := [] }
  · exact hSet.toDisposing.complete _ _ _ _
  · exact hSet.toDisposing.complete _ _ _ _
  · exact hSet.raiseEngine ⟨hWork.drawing, hWork.check, fun hk => absurd hk hNotCopy,
      fun _ => Nat.lt_of_not_le hLast, fun _ _ => Nat.succ_pos _, fun _ hw => (nomatch hw)⟩

/-- The current command of a grant that has not been dropped, once the grant is released. -/
theorem Serving.working {s : State} (h : Serving s) {access : EngineAccess}
    (hGrant : s.arbiter.grant = some (.engine ⟨access, false⟩)) : ∃ c, s.engine.current = some c ∧
      c.nextAccess = some access ∧ c.InWork ∧ ∀ memory, Working c { release s with memory := memory } := by
  obtain ⟨hRunning, hNext⟩ := h.arbiter.current ⟨access, false⟩ (.inr hGrant) rfl
  obtain ⟨c, hCurrent, hAccess⟩ := Option.bind_eq_some_iff.mp hNext
  obtain ⟨hWork, hReason⟩ := h.inWork hRunning hCurrent
  exact ⟨c, hCurrent, hAccess, hWork, fun _ => ⟨⟨h.bounds, hCurrent, h.noRecord (by simp [hRunning])
    (by simp [hRunning]), h.notDue (by simp [hRunning]), h.present.1, h.arbiter.quiet_released hGrant⟩,
    hRunning, hReason⟩⟩

end Sys2Proof.Machine

namespace Sys2Proof.Machine

/-! # The grants before an access (R9, R162, R169)

A grant that ends leaves a legal state, and as many grants end before an access as the bound counts. -/

/-! ## A grant that ends leaves a legal state -/

/-- Memory freed by a row latch or a data-port access. -/
theorem Serving.release {s : State} (h : Serving s) (hGrant : ∀ e, s.arbiter.grant ≠ some (.engine e)) :
    Serving (release s) :=
  h.of_blocks rfl rfl rfl rfl rfl id (h.arbiter.released hGrant)
    (h.dropped.of_arbiter rfl rfl rfl (fun _ he _ => he.imp_right (nomatch ·))
      fun _ hp => hp.imp_right (nomatch ·))

/-- Memory freed by the last access of a dropped command. -/
theorem Serving.release_dropped {s : State} (h : Serving s) {e : EngineRequest} (hd : e.dropped = true)
    (hGrant : s.arbiter.grant = some (.engine e)) : Serving (Machine.release s) := by
  have hReset := (h.dropped ((droppedOutstanding_iff s).mpr ⟨e, .inr hGrant, hd⟩)).1
  have hQuiet := h.arbiter.quiet_released hGrant
  exact h.of_blocks rfl rfl rfl rfl rfl id (hQuiet.fits (by simp [Machine.release, hReset, Engine.reset]))
    (hQuiet.droppedInv rfl)

/-- The source read of a dropped COPY byte is followed by its write (R16). -/
theorem Serving.dropped_write {s : State} (h : Serving s) {a d : Nat}
    (hGrant : s.arbiter.grant = some (.engine ⟨.copyRead a d, true⟩)) (v : Byte) :
    Serving ((Machine.release s).withArbiter { (Machine.release s).arbiter with
      engineRequest := some ⟨.copyWrite d v, true⟩ }) := by
  obtain ⟨hReset, hQueue, hPending, hPort⟩ :=
    h.dropped ((droppedOutstanding_iff s).mpr ⟨_, .inr hGrant, rfl⟩)
  have hMapped := h.arbiter.engineMapped _ (.inr hGrant)
  refine h.of_blocks rfl rfl rfl rfl rfl id ((h.arbiter.quiet_released hGrant).asked nofun nofun
    fun x hx => hMapped x ?_) fun _ => ⟨hReset, hQueue, hPending, ?_⟩
  · exact List.mem_cons_of_mem _ hx
  · rw [Bool.eq_false_iff, Ne, portBusy_iff] at hPort ⊢
    exact fun ⟨p, hp⟩ => hPort ⟨p, hp.imp_right (nomatch ·)⟩

theorem raiseEngine_of_reset {s : State} (h : s.engine = Engine.reset) : raiseEngine s = s :=
  raiseEngine_of_not_running (by simp [h, Engine.reset])

/-- The access of a dropped command ends, whatever it is. -/
theorem endEngineAccess_dropped {s : State} (h : Serving s) {e : EngineRequest} (hd : e.dropped = true)
    (hGrant : s.arbiter.grant = some (.engine e)) : ∃ u, endEngineAccess e s = arbitrate u ∧ Serving u ∧
      ((∃ memory, u = { release s with memory := memory }) ∨
        ∃ a d v, e.access = .copyRead a d ∧ u = (release s).withArbiter { (release s).arbiter with
          engineRequest := some ⟨.copyWrite d v, true⟩ }) := by
  have hReset := (h.dropped ((droppedOutstanding_iff s).mpr ⟨e, .inr hGrant, hd⟩)).1
  have hFree : ∀ memory, Serving { release s with memory := memory } := fun _ =>
    (h.release_dropped hd hGrant).of_same rfl rfl rfl rfl rfl rfl id
  have hRaise : ∀ memory, raiseEngine { release s with memory := memory } =
      { release s with memory := memory } := fun _ => raiseEngine_of_reset hReset
  obtain ⟨access, dropped⟩ := e
  obtain rfl : dropped = true := hd
  cases access with
  | copyRead a d =>
    exact ⟨_, rfl, h.dropped_write hGrant _, .inr ⟨a, d, _, rfl, rfl⟩⟩
  | copyWrite d v =>
    exact ⟨_, congrArg arbitrate (hRaise (memoryWrite s.memory d v)), hFree _, .inl ⟨_, rfl⟩⟩
  | stampRead a => exact ⟨_, congrArg arbitrate (hRaise s.memory), hFree _, .inl ⟨_, rfl⟩⟩
  | stampModify d mask bits operator =>
    exact ⟨_, congrArg arbitrate (hRaise (memoryWrite s.memory d
      (operator.combine (byteAt s d) mask bits))), hFree _, .inl ⟨_, rfl⟩⟩

theorem copyByteWritten_mayAsk (s : State) : MayAsk s.arbiter (copyByteWritten s).arbiter := by
  unfold copyByteWritten
  split
  · exact .inl rfl
  · dsimp only
    split_ifs
    · exact .inl (complete_arbiter _ _ _ _ _)
    · exact .inl (complete_arbiter _ _ _ _ _)
    · exact raiseEngine_mayAsk (setCurrent _ s)

theorem stampByteWritten_mayAsk (s : State) : MayAsk s.arbiter (stampByteWritten s).arbiter := by
  unfold stampByteWritten
  split
  · exact .inl rfl
  · dsimp only
    split_ifs
    · exact raiseEngine_mayAsk (setCurrent _ s)
    · exact .inl (complete_arbiter _ _ _ _ _)
    · exact .inl (complete_arbiter _ _ _ _ _)
    · exact raiseEngine_mayAsk (setCurrent _ s)

/-- The access of a running command ends, whatever it is: the command ends or goes on (R68, R79). -/
theorem endEngineAccess_live {s : State} (h : Serving s) {access : EngineAccess}
    (hGrant : s.arbiter.grant = some (.engine ⟨access, false⟩)) :
    ∃ u, endEngineAccess ⟨access, false⟩ s = arbitrate u ∧ Serving u ∧
      MayAsk (release s).arbiter u.arbiter := by
  obtain ⟨c, hCurrent, hNext, hWork, hWorking⟩ := h.working hGrant
  have hCurrent' : (release s).engine.current = some c := hCurrent
  have hFree : Working c (release s) := hWorking s.memory
  cases access with
  | copyRead a d =>
    refine ⟨raiseEngine (setCurrent { c with copyByte := some (byteAt s a) } (release s)), ?_,
      (hFree.setCurrent _).raiseEngine ⟨hWork.1, hWork.2, hWork.3, hWork.4, hWork.5, hWork.6⟩,
      raiseEngine_mayAsk (setCurrent _ (release s))⟩
    simp only [endEngineAccess, endCopyRead, Bool.false_eq_true, if_false, hCurrent']
  | copyWrite d v =>
    exact ⟨_, rfl, (hWorking (memoryWrite s.memory d v)).copyByteWritten hWork
      (kind_of_nextAccess_copyWrite hNext), copyByteWritten_mayAsk _⟩
  | stampRead a =>
    have hNotCopy : c.entry.kind ≠ .copy := by simp [kind_of_nextAccess_stampRead hNext]
    let c1 : Current := { c with
      rowBuffer := c.rowBuffer ++ [byteAt s a]
      phase := if decide (c.entry.sourceBytes ≤ c.byteIndex + 1) then .writing else .reading
      byteIndex := if decide (c.entry.sourceBytes ≤ c.byteIndex + 1) then 0 else c.byteIndex + 1 }
    refine ⟨raiseEngine (setCurrent c1 (release s)), ?_, (hFree.setCurrent c1).raiseEngine
      ⟨hWork.drawing, hWork.check, fun hk => absurd hk hNotCopy, hWork.row, fun _ hPhase => ?_,
        fun _ hPhase => ?_⟩, raiseEngine_mayAsk (setCurrent c1 (release s))⟩
    · simp only [endEngineAccess, endStampRead, Bool.false_eq_true, if_false, hCurrent']
      rfl
    · by_cases hLast : c.entry.sourceBytes ≤ c.byteIndex + 1
      · simp [c1, hLast] at hPhase
      · simp only [c1, decide_eq_true_eq, if_neg hLast]
        exact Nat.lt_of_not_le hLast
    · by_cases hLast : c.entry.sourceBytes ≤ c.byteIndex + 1
      · simp only [c1, decide_eq_true_eq, if_pos hLast]
        exact Nat.succ_pos _
      · simp [c1, hLast] at hPhase
  | stampModify d mask bits operator =>
    obtain ⟨hKind, hPhase⟩ := kind_of_nextAccess_stampModify hNext
    exact ⟨_, rfl, (hWorking (memoryWrite s.memory d (operator.combine (byteAt s d) mask
      bits))).stampByteWritten hWork hKind hPhase, stampByteWritten_mayAsk _⟩

theorem endGrant_of_engine {s : State} {e : EngineRequest} (h : s.arbiter.grant = some (.engine e)) :
    endGrant s = endEngineAccess e s := by
  simp only [endGrant, h]

theorem endGrant_of_row {s : State} {r : RowRequest} {p : Fin 4}
    (h : s.arbiter.grant = some (.row r p)) : endGrant s = endRowRead r p s := by
  simp only [endGrant, h]

theorem endGrant_of_port {s : State} {p : PortAccess} (h : s.arbiter.grant = some (.port p)) :
    endGrant s = endPortAccess p s := by
  simp only [endGrant, h]

theorem endGrant_of_none {s : State} (h : s.arbiter.grant = none) : endGrant s = arbitrate s := by
  simp only [endGrant, h]

/-- A data-port access that ends returns or stores its byte, and the arbiter serves. -/
theorem endPortAccess_eq (p : PortAccess) (s : State) : ∃ memory port, endPortAccess p s =
    arbitrate { release s with memory := memory, port := port } := by
  cases p with
  | read a => exact ⟨s.memory, _, rfl⟩
  | write a v => exact ⟨_, s.port, rfl⟩

theorem endGrant_serving {s : State} (h : Serving s) : EngineSide (endGrant s) := by
  cases hGrant : s.arbiter.grant with
  | none =>
    rw [endGrant_of_none hGrant]
    exact h.arbitrate
  | some g =>
    cases g with
    | row r p =>
      obtain ⟨k, hEnd⟩ := endRowRead_eq r p s
      rw [endGrant_of_row hGrant, hEnd]
      have hFree : Serving ((s.withCompositor k).withArbiter { s.arbiter with grant := none }) :=
        (h.release (by simp [hGrant])).of_same rfl rfl rfl rfl rfl rfl id
      exact hFree.arbitrate
    | port p =>
      obtain ⟨memory, port, hEnd⟩ := endPortAccess_eq p s
      rw [endGrant_of_port hGrant, hEnd]
      have hFree : Serving { release s with memory := memory, port := port } :=
        (h.release (by simp [hGrant])).of_same rfl rfl rfl rfl rfl rfl id
      exact hFree.arbitrate
    | engine e =>
      rw [endGrant_of_engine hGrant]
      cases hd : e.dropped with
      | true =>
        obtain ⟨u, hEnd, hu, -⟩ := endEngineAccess_dropped h hd hGrant
        rw [hEnd]
        exact hu.arbitrate
      | false =>
        obtain ⟨access, dropped⟩ := e
        obtain rfl : dropped = false := hd
        obtain ⟨u, hEnd, hu, -⟩ := endEngineAccess_live h hGrant
        rw [hEnd]
        exact hu.arbitrate

/-- Takes and grant ends keep the legal states of the engine side. -/
theorem engineSide_keptByPart : KeptByPart EngineSide :=
  ⟨fun _ h => takeNext_engineSide h, fun _ h => endGrant_serving h.1⟩

/-! ## The engine's request after a grant has ended -/

/-- The engine request that follows grant `g`, where `q` waited: as it was after another client's grant;
none or a request of the running command after the engine's; and the write of a dropped COPY byte after its
read. -/
inductive Follows : Grant → Option EngineRequest → Option EngineRequest → Prop
  | other {g : Grant} {q : Option EngineRequest} (h : g.isEngine = false) : Follows g q q
  | quiet (e : EngineRequest) (q : Option EngineRequest) : Follows (.engine e) q none
  | asks (e r : EngineRequest) (q : Option EngineRequest) (h : r.dropped = false) :
      Follows (.engine e) q (some r)
  | writes (a d : Nat) (v : Byte) (q : Option EngineRequest) :
      Follows (.engine ⟨.copyRead a d, true⟩) q (some ⟨.copyWrite d v, true⟩)

/-- Serving a second time changes nothing. -/
theorem Serves.again {shown shown' : Fin 4} {b b' b'' : Arbiter} (h : Serves shown b b')
    (h' : Serves shown' b' b'') : b'' = b' := by
  have hBusy := h.busy'
  cases h' with
  | busy => rfl
  | row hg hr => exact nomatch (hBusy hg).1.symm.trans hr
  | port hg _ hp => exact nomatch (hBusy hg).2.1.symm.trans hp
  | engine hg _ _ he => exact nomatch (hBusy hg).2.2.symm.trans he
  | nothing => rfl

/-- What the arbiter makes of a grant that ends. -/
theorem endGrant_arbiter {s : State} (h : Serving s) {g : Grant} (hGrant : s.arbiter.grant = some g) :
    ∃ q shown, Follows g s.arbiter.engineRequest q ∧
      Serves shown { s.arbiter with grant := none, engineRequest := q } (endGrant s).arbiter := by
  cases g with
  | row r p =>
    obtain ⟨k, hEnd⟩ := endRowRead_eq r p s
    rw [endGrant_of_row hGrant, hEnd]
    exact ⟨_, _, .other rfl, arbitrate_serves ((s.withCompositor k).withArbiter _)⟩
  | port p =>
    obtain ⟨memory, port, hEnd⟩ := endPortAccess_eq p s
    rw [endGrant_of_port hGrant, hEnd]
    exact ⟨_, _, .other rfl, arbitrate_serves { release s with memory := memory, port := port }⟩
  | engine e =>
    have hNone : s.arbiter.engineRequest = none := by
      cases hr : s.arbiter.engineRequest with
      | none => rfl
      | some x => exact absurd hGrant (h.arbiter.oneAccess x hr e)
    have hFree : (release s).arbiter = { s.arbiter with grant := none, engineRequest := none } := by
      rw [← hNone]
      rfl
    rw [endGrant_of_engine hGrant]
    cases hd : e.dropped with
    | true =>
      obtain ⟨u, hEnd, -, ⟨memory, rfl⟩ | ⟨a, d, v, hAccess, rfl⟩⟩ := endEngineAccess_dropped h hd hGrant
      · rw [hEnd]
        exact ⟨none, _, .quiet e _, hFree ▸ arbitrate_serves { release s with memory := memory }⟩
      · rw [hEnd]
        obtain ⟨access, dropped⟩ := e
        obtain rfl : access = _ := hAccess
        obtain rfl : dropped = true := hd
        exact ⟨_, _, .writes a d v _, arbitrate_serves ((release s).withArbiter _)⟩
    | false =>
      obtain ⟨access, dropped⟩ := e
      obtain rfl : dropped = false := hd
      obtain ⟨u, hEnd, -, hSame | ⟨access', shown, -, hAsks⟩⟩ := endEngineAccess_live h hGrant
      · rw [hEnd]
        exact ⟨none, _, .quiet _ _, hFree ▸ hSame ▸ arbitrate_serves u⟩
      · rw [hEnd, hAsks.again (arbitrate_serves u)]
        exact ⟨some ⟨access', false⟩, shown, .asks _ _ _ rfl, hAsks⟩

end Sys2Proof.Machine

namespace Sys2Proof.Machine

/-! # The state an access of the host meets (R38, R51, R162, R169)

The takes that are due come to an end, since each removes an entry; and so does what is outstanding at the
arbiter, since each grant that ends brings it nearer. -/

/-! ## The takes that are due -/

/-- A take is due only where an IDLE engine finds an entry (R38). -/
def DueFits (s : State) : Prop := s.engine.takeDue = true → s.engine.state = .idle ∧ s.queue ≠ []

/-- What an ending, a beginning or a hold leaves: the queue as it was, and a take due only where the engine
goes on to it. -/
def Leaves (queue : List Entry) (t : State) : Prop := t.queue = queue ∧ DueFits t

theorem leaves_of_not_due {t : State} (h : t.engine.takeDue = false) : Leaves t.queue t :=
  ⟨rfl, fun hDue => Bool.noConfusion (h.symm.trans hDue)⟩

theorem goOn_leaves (s : State) : Leaves s.queue (goOn s) := by
  refine ⟨rfl, fun hDue => ?_⟩
  have hBoth : (!s.engine.pauseRequested && !s.queue.isEmpty) = true := hDue
  simp only [Bool.and_eq_true, Bool.not_eq_true', List.isEmpty_eq_false_iff] at hBoth
  exact ⟨by simp [goOn, hBoth.1], hBoth.2⟩

section
variable {s : State} (h : s.engine.takeDue = false)
include h

theorem complete_leaves {queue : List Entry} (hQueue : s.queue = queue) (status : Status) (progress : Nat)
    (clipped held : Bool) : Leaves queue (complete status progress clipped held s) := by
  subst hQueue
  unfold complete
  split
  · exact leaves_of_not_due h
  · split
    · dsimp only
      split
      · exact goOn_leaves (s.withRing _)
      · exact leaves_of_not_due h
    · exact goOn_leaves s

theorem faultWith_leaves (status : Status) : Leaves s.queue (faultWith status s) := by
  unfold faultWith
  split
  · exact leaves_of_not_due h
  · dsimp only
    split <;> exact leaves_of_not_due h

theorem beginDrawing_leaves : Leaves s.queue (beginDrawing s) := by
  unfold beginDrawing
  split
  · exact leaves_of_not_due h
  · obtain ⟨arbiter, hRaise⟩ := raiseEngine_frame (s.withEngine _)
    rw [hRaise]
    exact leaves_of_not_due h

theorem hold_leaves (reason : HoldReason) : Leaves s.queue (hold reason s) := by
  unfold hold
  split <;> exact leaves_of_not_due h

theorem holdRule_leaves : Leaves s.queue (holdRule s) := by
  unfold holdRule
  split
  · exact leaves_of_not_due h
  · split <;> split
    · exact hold_leaves h _
    · exact beginDrawing_leaves h
    · exact faultWith_leaves h _
    · exact beginDrawing_leaves h

theorem handOver_leaves : Leaves s.queue (handOver s) := by
  unfold handOver
  split
  · exact leaves_of_not_due h
  · split
    · dsimp only
      split
      · exact leaves_of_not_due h
      · exact complete_leaves (by exact h) rfl _ _ _ _
    · exact complete_leaves (by exact h) rfl _ _ _ _

theorem disposal_leaves (k : Kind) (e : Entry) : Leaves s.queue (disposal k e s) := by
  have hDrawing : Leaves s.queue (disposeDrawing e s) := by
    unfold disposeDrawing
    split
    · exact beginDrawing_leaves h
    · exact holdRule_leaves h
  cases k with
  | copy => exact hDrawing
  | stamp => exact hDrawing
  | present =>
    simp only [disposal, disposePresent]
    split
    · exact hold_leaves h _
    · exact handOver_leaves h
  | zone => exact complete_leaves (by exact h) rfl _ _ _ _
  | wait =>
    simp only [disposal, disposeWait]
    split
    · exact leaves_of_not_due (t := s.withEngine _) h
    · exact complete_leaves h rfl _ _ _ _
  | mark => exact complete_leaves h rfl _ _ _ _

end

/-- A take removes the head entry and leaves a take due only where the engine goes on to it. -/
theorem takeNext_leaves {s : State} {e : Entry} {rest : List Entry} (hIdle : s.engine.state = .idle)
    (hQueue : s.queue = e :: rest) : Leaves rest (takeNext s) := by
  rw [takeNext_eq hIdle hQueue]
  cases e.check with
  | some f => exact faultWith_leaves (s := taken e rest s) rfl f
  | none => exact disposal_leaves (s := taken e rest s) rfl e.kind e

theorem settleTakes_of_settled {s : State} (h : Settled s) (n : Nat) : settleTakes n s = s := by
  have hNot : s.engine.takeDue = false := h
  cases n with
  | zero => rfl
  | succ n => rw [settleTakes, if_neg (by simp [hNot])]

theorem settleTakes_of_due {s : State} (h : s.engine.takeDue = true) (n : Nat) :
    settleTakes (n + 1) s = settleTakes n (takeNext s) := by
  rw [settleTakes, if_pos h]

/-- As many takes as there are entries leave none due, and one more changes nothing. -/
theorem settleTakes_spec (n : Nat) : ∀ s, DueFits s → s.queue.length ≤ n →
    Settled (settleTakes n s) ∧ settleTakes (n + 1) s = settleTakes n s := by
  induction n with
  | zero =>
    intro s hFits hLength
    have hNot : Settled s := by
      by_contra hDue
      exact (hFits (Bool.not_eq_false _ ▸ hDue)).2 (List.eq_nil_of_length_eq_zero (Nat.le_zero.mp hLength))
    exact ⟨hNot, settleTakes_of_settled hNot 1⟩
  | succ n ih =>
    intro s hFits hLength
    cases hDue : s.engine.takeDue with
    | false =>
      rw [settleTakes_of_settled hDue, settleTakes_of_settled hDue]
      exact ⟨hDue, rfl⟩
    | true =>
      obtain ⟨hIdle, hSome⟩ := hFits hDue
      obtain ⟨e, rest, hQueue⟩ := List.exists_cons_of_ne_nil hSome
      obtain ⟨hRest, hNext⟩ := takeNext_leaves hIdle hQueue
      rw [settleTakes_of_due hDue, settleTakes_of_due hDue]
      refine ih _ hNext ?_
      rw [hQueue, List.length_cons] at hLength
      rw [hRest]
      exact Nat.le_of_succ_le_succ hLength

/-- Takes that are due are all taken before an event or an access (R38, R51). -/
theorem settleTakes_settled {s : State} (hFits : DueFits s) (hBounds : BoundsInv s) :
    Settled (settleTakes queueCapacity s) :=
  (settleTakes_spec queueCapacity s hFits hBounds.1).1

/-- A take that is due is the first of those before an event or an access. -/
theorem settleTakes_takeNext {s : State} (hFits : DueFits s) (hBounds : BoundsInv s)
    (hDue : s.engine.takeDue = true) :
    settleTakes queueCapacity (takeNext s) = settleTakes queueCapacity s := by
  have h := (settleTakes_spec queueCapacity s hFits hBounds.1).2
  rwa [settleTakes_of_due hDue] at h

/-! ## Takes that are due come first (O5) -/

theorem takeNext_inReset (s : State) : inReset (takeNext s) = inReset s :=
  (takeNext_moves s).inReset

/-- A take is the role of a take command only. -/
theorem isTake_of_role {c : Instr} {k : Kind} (h : role c = .take k) : isTake c = true := by
  cases c with
  | blinkWrite group v => cases group <;> cases h
  | irqStatusClear byte v => cases byte <;> cases h
  | irqEnable byte v => cases byte <;> cases h
  | copy | stamp | present | zone | wait | mark => rfl
  | _ => cases h

theorem EngineInv.dueFits {s : State} (h : EngineInv s) : DueFits s := h.2.2

/-- What an event or an access does depends on the state alone that the takes leave. -/
theorem onEvent_congr {s t : State} (h : settleTakes queueCapacity s = settleTakes queueCapacity t)
    (event : State → State) : onEvent event s = onEvent event t :=
  congrArg event h

theorem onBus_congr {s t : State} (h : beforeAccess s = beforeAccess t) (hReset : inReset s = inReset t)
    (hOut : inReset s = false) (effect : State → State) : onBus effect s = onBus effect t := by
  rw [onBus, onBus, ← hReset, hOut, h]
  rfl

/-- Settles O5: the take that is due is the first of those that come before every other command. -/
theorem dueTakesComeFirst : Obligations.DueTakesComeFirst := by
  intro s e rest hQueue hBounds hEngine hOut hDue c hTake hResetEvent
  have hNext : settleTakes queueCapacity s = settleTakes queueCapacity (takeNext s) :=
    (settleTakes_takeNext hEngine.dueFits hBounds hDue).symm
  have hTaken : takeAnd e.kind (disposal e.kind) s = takeNext s := by simp only [takeNext, hQueue]
  refine ⟨takeNext s, by rw [exec_takeCommand, hTaken], ?_⟩
  have hBus (effect : State → State) : onBus effect s = onBus effect (takeNext s) :=
    onBus_congr (onEvent_congr hNext _) (takeNext_inReset s).symm hOut effect
  rw [exec_eq_role, exec_eq_role]
  refine congrArg Host.Outcome.next ?_
  cases hRole : role c with
  | take k => exact Bool.noConfusion (hTake.symm.trans (isTake_of_role hRole))
  | write offset v => exact hBus _
  | portRead => exact hBus _
  | frameRead => exact hBus _
  | grantEnd ends => exact onEvent_congr hNext ends
  | timed event => exact onEvent_congr hNext event
  | reset event => exact Bool.noConfusion (hResetEvent.symm.trans (isResetEvent_of_role hRole))

end Sys2Proof.Machine

namespace Sys2Proof.Machine

/-! # What is outstanding at the arbiter comes to an end (R9, R16, R169) -/

theorem accessOutstanding_iff (s : State) : accessOutstanding s = true ↔
    (∃ p, s.arbiter.holdsPort p) ∨ ∃ e, s.arbiter.holdsEngine e ∧ e.dropped = true := by
  rw [accessOutstanding, Bool.or_eq_true, portBusy_iff, droppedOutstanding_iff]

/-! ## How many grants are left -/

/-- The grants that a waiting engine request holds back the next access for: the source read of a dropped
COPY byte and its write, another access of a dropped command, and none for the running command. -/
def EngineRequest.left (e : EngineRequest) : Nat :=
  match e.dropped, e.access with
  | false, _ => 0
  | true, .copyRead _ _ => 2
  | true, _ => 1

/-- The grants that end until grant `g` and what follows it have ended. -/
def Grant.left : Grant → Nat
  | .engine e => max 1 e.left
  | .row _ _ | .port _ => 1

/-- The grants that end until nothing is outstanding, at most. -/
def Arbiter.left (b : Arbiter) : Nat :=
  b.grant.elim 0 Grant.left + b.rowRequest.elim 0 (fun _ => 1) + b.portRequest.elim 0 (fun _ => 1) +
    b.engineRequest.elim 0 EngineRequest.left

theorem EngineRequest.left_le (e : EngineRequest) : e.left ≤ 2 := by
  unfold EngineRequest.left
  split <;> omega

theorem EngineRequest.left_of_live {e : EngineRequest} (h : e.dropped = false) : e.left = 0 := by
  rw [EngineRequest.left, h]

theorem EngineRequest.left_of_dropped {e : EngineRequest} (h : e.dropped = true) : 1 ≤ e.left := by
  rw [EngineRequest.left, h]
  cases e.access <;> simp

theorem Grant.left_le (g : Grant) : g.left ≤ 2 := by
  cases g with
  | engine e => exact max_le (by omega) e.left_le
  | _ => simp [Grant.left]

theorem Grant.left_pos (g : Grant) : 1 ≤ g.left := by
  cases g with
  | engine e => exact le_max_left _ _
  | _ => simp [Grant.left]

/-- A grant that ends leaves one grant less. -/
theorem Follows.left {g : Grant} {q q' : Option EngineRequest} (h : Follows g q q') :
    q'.elim 0 EngineRequest.left + 1 ≤ g.left + q.elim 0 EngineRequest.left := by
  have hPos := g.left_pos
  cases h with
  | other => omega
  | quiet => exact Nat.le_add_right_of_le hPos
  | asks e r q hLive =>
    rw [Option.elim_some, EngineRequest.left_of_live hLive]
    exact Nat.le_add_right_of_le hPos
  | writes => simp [EngineRequest.left, Grant.left]

/-- Serving leaves no more grants while something is outstanding after it. -/
theorem Serves.left {shown : Fin 4} {b b' : Arbiter} (h : Serves shown b b') (hFree : b.grant = none)
    (hOutstanding : (∃ p, b'.holdsPort p) ∨ ∃ e, b'.holdsEngine e ∧ e.dropped = true) :
    b'.left ≤ b.left := by
  cases h with
  | busy hg => simp [hFree] at hg
  | row _ hr => simp [Arbiter.left, hFree, hr, Grant.left]
  | port _ hr hp => simp [Arbiter.left, hFree, hr, hp, Grant.left]
  | engine hg hr hp he =>
    rename_i e
    have hDropped : e.dropped = true := by
      rcases hOutstanding with ⟨p, hp' | hg⟩ | ⟨e', hr' | hg, hd⟩
      · exact nomatch hp.symm.trans hp'
      · cases hg
      · cases hr'
      · cases hg
        exact hd
    have := EngineRequest.left_of_dropped hDropped
    simp only [Arbiter.left, hFree, hr, hp, he, Grant.left, Option.elim_some, Option.elim_none]
    omega
  | nothing => exact Nat.le_refl _

/-- Each grant that ends brings what is outstanding nearer to its end. -/
theorem endGrant_left {s : State} (h : EngineSide s) (hOutstanding : accessOutstanding s = true)
    (hNext : accessOutstanding (endGrant s) = true) :
    (endGrant s).arbiter.left < s.arbiter.left := by
  rw [accessOutstanding_iff] at hOutstanding hNext
  cases hGrant : s.arbiter.grant with
  | none =>
    obtain ⟨-, hPort, hEngine⟩ := h.2 hGrant
    rcases hOutstanding with ⟨p, hp | hp⟩ | ⟨e, he | he, -⟩
    · exact nomatch hPort.symm.trans hp
    · exact nomatch hGrant.symm.trans hp
    · exact nomatch hEngine.symm.trans he
    · exact nomatch hGrant.symm.trans he
  | some g =>
    obtain ⟨q, shown, hFollows, hServes⟩ := endGrant_arbiter h.1 hGrant
    have hServed := hServes.left rfl hNext
    have hFollowed := hFollows.left
    simp only [Arbiter.left, hGrant, Option.elim_some, Option.elim_none] at hServed ⊢
    omega

/-- No more than the bound counts is left where something is outstanding. -/
theorem left_le_settleBound {s : State} (h : Serving s) : s.arbiter.left ≤ settleBound := by
  have hRow : s.arbiter.rowRequest.elim 0 (fun _ => 1) ≤ 1 := by
    cases s.arbiter.rowRequest <;> simp
  have hPort : s.arbiter.portRequest.elim 0 (fun _ => 1) ≤ 1 := by
    cases s.arbiter.portRequest <;> simp
  have hGrant : s.arbiter.grant.elim 0 Grant.left ≤ 2 := by
    cases s.arbiter.grant with
    | none => simp
    | some g => exact g.left_le
  unfold settleBound Arbiter.left
  cases he : s.arbiter.engineRequest with
  | none => simp only [Option.elim_none]; omega
  | some e =>
    have hOther : s.arbiter.grant.elim 0 Grant.left ≤ 1 := by
      cases hg : s.arbiter.grant with
      | none => simp
      | some g =>
        cases g with
        | engine e' => exact absurd hg (h.arbiter.oneAccess e he e')
        | row r p => exact Nat.le_refl _
        | port p => exact Nat.le_refl _
    cases hd : e.dropped with
    | false => simp only [Option.elim_some, EngineRequest.left_of_live hd]; omega
    | true =>
      have hNoPort : s.arbiter.portRequest = none := by
        have hNone := (h.dropped ((droppedOutstanding_iff s).mpr ⟨e, .inl he, hd⟩)).2.2.2
        rw [portBusy, Bool.or_eq_false_iff] at hNone
        exact Option.not_isSome_iff_eq_none.mp (by simp [hNone.1])
      have hTwo := e.left_le
      simp only [hNoPort, Option.elim_some, Option.elim_none]
      omega

/-! ## What is outstanding is settled -/

theorem settleAccess_of_none {s : State} (h : accessOutstanding s = false) (n : Nat) :
    settleAccess n s = s := by
  cases n with
  | zero => rfl
  | succ n => rw [settleAccess, if_neg (by simp [h])]

theorem settleAccess_of_outstanding {s : State} (h : accessOutstanding s = true) (n : Nat) :
    settleAccess (n + 1) s = settleAccess n (endGrant s) := by
  rw [settleAccess, if_pos h]

theorem left_pos_of_outstanding {s : State} (h : accessOutstanding s = true) : 1 ≤ s.arbiter.left := by
  have hGrant (g : Grant) (hg : s.arbiter.grant = some g) : 1 ≤ s.arbiter.left := by
    have := g.left_pos
    simp only [Arbiter.left, hg, Option.elim_some]
    omega
  rcases (accessOutstanding_iff s).mp h with ⟨p, hp | hp⟩ | ⟨e, he | he, hd⟩
  · simp only [Arbiter.left, hp, Option.elim_some]
    omega
  · exact hGrant _ hp
  · have := EngineRequest.left_of_dropped hd
    simp only [Arbiter.left, he, Option.elim_some]
    omega
  · exact hGrant _ he

/-- As many grants as are left leave nothing outstanding, and one more changes nothing. -/
theorem settleAccess_spec (n : Nat) : ∀ s, EngineSide s →
    (accessOutstanding s = true → s.arbiter.left ≤ n) →
    accessOutstanding (settleAccess n s) = false ∧ settleAccess (n + 1) s = settleAccess n s := by
  induction n with
  | zero =>
    intro s _ hLeft
    have hNone : accessOutstanding s = false := by
      by_contra hSome
      have hTrue := Bool.not_eq_false _ ▸ hSome
      exact absurd (hLeft hTrue) (Nat.not_le.mpr (left_pos_of_outstanding hTrue))
    exact ⟨hNone, settleAccess_of_none hNone 1⟩
  | succ n ih =>
    intro s h hLeft
    cases hOut : accessOutstanding s with
    | false =>
      rw [settleAccess_of_none hOut, settleAccess_of_none hOut]
      exact ⟨hOut, rfl⟩
    | true =>
      rw [settleAccess_of_outstanding hOut, settleAccess_of_outstanding hOut]
      exact ih _ (endGrant_serving h.1) fun hNext =>
        Nat.le_of_lt_succ (Nat.lt_of_lt_of_le (endGrant_left h hOut hNext) (hLeft hOut))

theorem settleAccess_none_outstanding {s : State} (h : EngineSide s) :
    accessOutstanding (settleAccess settleBound s) = false :=
  (settleAccess_spec settleBound s h fun _ => left_le_settleBound h.1).1

/-- A grant that ends while something is outstanding is the first of those before an access. -/
theorem settleAccess_endGrant {s : State} (h : EngineSide s) (hOut : accessOutstanding s = true) :
    settleAccess settleBound (endGrant s) = settleAccess settleBound s := by
  have hMore := (settleAccess_spec settleBound s h fun _ => left_le_settleBound h.1).2
  rwa [settleAccess_of_outstanding hOut] at hMore

/-- A take adds nothing that is outstanding. -/
theorem takeNext_none_outstanding {s : State} (h : accessOutstanding s = false) :
    accessOutstanding (takeNext s) = false := by
  rw [Bool.eq_false_iff, Ne, accessOutstanding_iff] at h ⊢
  have hAsk := takeNext_mayAsk s
  rintro (⟨p, hp⟩ | ⟨e, he, hd⟩)
  · exact h (.inl ⟨p, hAsk.holdsPort hp⟩)
  · exact h (.inr ⟨e, hAsk.holdsEngine he hd, hd⟩)

theorem settleTakes_none_outstanding (n : Nat) : ∀ s, accessOutstanding s = false →
    accessOutstanding (settleTakes n s) = false := by
  induction n with
  | zero => exact fun _ h => h
  | succ n ih =>
    intro s h
    rw [settleTakes]
    split
    · exact ih _ (takeNext_none_outstanding h)
    · exact h

theorem EngineSide.settled {s : State} (h : EngineSide s) : Settled (settleTakes queueCapacity s) :=
  settleTakes_settled h.1.engine.dueFits h.1.bounds

/-- An access of the host meets a ready part (R162, R169). -/
theorem beforeAccess_ready {s : State} (h : EngineSide s) (hOut : inReset s = false) :
    Ready (beforeAccess s) := by
  have hSettled := engineSide_keptByPart.settleTakes queueCapacity s h
  have hAccess := engineSide_keptByPart.settleAccess settleBound _ hSettled
  have hReset : inReset (beforeAccess s) = inReset s :=
    ((moves_keptByPart s).beforeAccess s (.refl s)).inReset
  exact ⟨hReset.trans hOut, hAccess.settled,
    settleTakes_none_outstanding _ _ (settleAccess_none_outstanding hSettled)⟩

end Sys2Proof.Machine

namespace Sys2Proof.Machine

/-! # What the accesses of the host keep of the engine side

Each access meets a ready part: no take is due, and nothing of the last access is outstanding. -/

/-- A legal engine side in a part that is ready for an access of the host. -/
structure Meets (s : State) : Prop extends Serving s where
  busy : ArbiterBusyInv s
  notDue : s.engine.takeDue = false
  free : accessOutstanding s = false

theorem EngineSide.meets {s : State} (h : EngineSide s) (hReady : Ready s) : Meets s :=
  ⟨h.1, h.2, hReady.2.1, hReady.2.2⟩

theorem EngineSide.of_mayAsk {s t : State} (hBusy : ArbiterBusyInv s) (hServing : Serving t)
    (hAsk : MayAsk s.arbiter t.arbiter) : EngineSide t :=
  ⟨hServing, hAsk.busy hBusy⟩

theorem not_dropped_of_free {s t : State} (h : accessOutstanding s = false)
    (hArbiter : t.arbiter = s.arbiter) : DroppedInv t :=
  droppedInv_of_none fun e he => not_dropped_of_not_outstanding h e (hArbiter ▸ he)

section
variable {s : State} (h : Meets s)
include h

theorem Meets.side : EngineSide s := ⟨h.toServing, h.busy⟩

theorem Meets.not_dropped : ∀ e, s.arbiter.holdsEngine e → e.dropped = false :=
  not_dropped_of_not_outstanding h.free

theorem Meets.portFree : portBusy s = false := (Bool.or_eq_false_iff.mp h.free).1

/-- An engine that does not run has no access at the arbiter of a ready part. -/
theorem Meets.quiet (hState : s.engine.state ≠ .running) : ArbiterQuiet s.arbiter :=
  h.arbiter.quiet fun e he => hState (h.arbiter.current e he (h.not_dropped e he)).1

theorem Meets.disposing {c : Current} (hCurrent : s.engine.current = some c)
    (hState : s.engine.state ≠ .running) (hStalled : s.engine.state ≠ .stalled)
    (hPending : s.engine.state ≠ .faultPending) : Disposing c s :=
  h.toServing.disposing hCurrent hState hStalled hPending

theorem Meets.complete {c : Current} (hCurrent : s.engine.current = some c)
    (hState : s.engine.state ≠ .running) (hStalled : s.engine.state ≠ .stalled)
    (hPending : s.engine.state ≠ .faultPending) (status : Status) (progress : Nat) (clipped held : Bool) :
    EngineSide (complete status progress clipped held s) :=
  .of_mayAsk h.busy ((h.disposing hCurrent hState hStalled hPending).complete _ _ _ _)
    (.inl (complete_arbiter _ _ _ _ _))

/-- The engine changes, and nothing at the arbiter. -/
theorem Meets.withEngine {g : Engine} (hDue : g.takeDue = false)
    (hRecord : WaitingRecordInv (s.withEngine g)) (hEngine : EngineInv (s.withEngine g))
    (hPresent : PresentInv (s.withEngine g)) (hDrawing : DrawingInv (s.withEngine g))
    (hArbiter : ArbiterFits g s.arbiter) : Meets (s.withEngine g) :=
  ⟨⟨h.bounds, hRecord, hEngine, hPresent, hDrawing, not_dropped_of_free h.free rfl, hArbiter⟩,
    h.busy, hDue, h.free⟩

/-- Pause-requested changes, in a state in which the engine can keep it (R60). -/
theorem Meets.setPause (x : Bool) (hState : x = true → s.engine.state = .running ∨
      s.engine.state = .waiting ∨ s.engine.state = .stalled ∨ s.engine.state = .faultPending ∨
      s.engine.state = .halted) : Meets (setPauseRequested x s) :=
  h.withEngine h.notDue h.record ⟨h.engine.1, hState, h.engine.2.2⟩ h.present h.drawing
    (h.arbiter.of_same_work rfl rfl)

/-- An engine with no command current that stands IDLE, PAUSED or HALTED goes on (R51, R61, R63). -/
theorem Meets.goOn (hState : s.engine.state ≠ .running) : EngineSide (goOn s) :=
  ⟨goOn_serving h.bounds h.present.1 (not_dropped_of_free h.free rfl) fun _ hg => (h.quiet hState).fits hg,
    h.busy⟩

end

/-! ## PAUSE, RESUME and CONTINUE -/

/-- What an engine state without a current command says of the engine (R36). -/
theorem EngineInv.of_halted {s : State} (h : EngineInv s) (hState : s.engine.state = .halted) :
    s.engine.current = none ∧ s.engine.holdReason = .none := by
  have hMatch := h.1
  cases hc : s.engine.current with
  | none => simp only [hState, hc] at hMatch; exact ⟨rfl, hMatch⟩
  | some c => simp only [hState, hc] at hMatch

theorem EngineInv.of_paused {s : State} (h : EngineInv s) (hState : s.engine.state = .paused) :
    s.engine.pauseRequested = false ∧ (s.engine.current = none → s.engine.holdReason = .none) := by
  obtain ⟨hMatch, hPause, -⟩ := h
  constructor
  · by_contra hSome
    simpa [hState] using hPause (Bool.not_eq_false _ ▸ hSome)
  · intro hc
    simpa only [hState, hc] using hMatch

/-- What a held command is held for, in HELD and in PAUSED (R43, R44). -/
theorem EngineInv.held_reason {s : State} (h : EngineInv s) {c : Current}
    (hState : s.engine.state = .held ∨ s.engine.state = .paused) (hCurrent : s.engine.current = some c) :
    (s.engine.holdReason = .page ∧ (c.entry.kind = .copy ∨ c.entry.kind = .stamp)) ∨
      (s.engine.holdReason = .present ∧ c.entry.kind = .present) := by
  have hMatch := h.1
  rcases hState with hState | hState <;> simp only [hState, hCurrent] at hMatch <;> exact hMatch.2

/-- A held engine that pauses (R60). -/
theorem Meets.pauseHeld {s : State} (h : Meets s) (hState : s.engine.state = .held)
    (hPause : s.engine.pauseRequested = false) : Meets (setEngineState .paused s) := by
  refine h.withEngine h.notDue ?_ ⟨?_, fun hp => Bool.noConfusion (hPause.symm.trans hp),
    fun hd => Bool.noConfusion (h.notDue.symm.trans hd)⟩ ⟨h.present.1, fun hs => (nomatch hs),
    fun _ hs => (nomatch hs)⟩ (fun c hc hk _ _ => ?_) ((h.quiet (by simp [hState])).fits (by simp))
  · have hRecord := h.record
    rw [WaitingRecordInv] at hRecord ⊢
    simpa [hState] using hRecord
  · have hMatch := h.engine.1
    simp only [hState] at hMatch
    simp only [State.withEngine_engine]
    split at hMatch <;> simp_all
  · obtain ⟨hCheck, hNew, hRest⟩ := h.drawing c hc hk (by simp [hState]) (by simp [hState])
    exact ⟨hCheck, fun _ => hNew (by simp [hState]), hRest⟩

theorem refuse_engineSide {s : State} (h : EngineSide s) : EngineSide (refuse s) :=
  h.of_same rfl rfl rfl rfl rfl rfl id

theorem pauseEngine_engineSide {s : State} (h : Meets s) : EngineSide (pauseEngine s) := by
  unfold pauseEngine
  split
  · exact refuse_engineSide h.side
  · rename_i hNot
    have hPause : s.engine.pauseRequested = false := Bool.eq_false_of_not_eq_true hNot
    cases hState : s.engine.state with
    | idle =>
      obtain ⟨hCurrent, hReason, -⟩ := h.engine.of_idle hState
      have hRecord := h.noRecord (by simp [hState]) (by simp [hState])
      have hGoOn : setEngineState .paused s = goOn (setPauseRequested true s) := by
        simp [setEngineState, Machine.goOn, setPauseRequested, State.withEngine, hCurrent, hReason, hRecord,
          hPause, h.notDue]
      have hQuiet := h.quiet (by simp [hState])
      show EngineSide (setEngineState .paused s)
      rw [hGoOn]
      exact ⟨goOn_serving h.bounds h.present.1 (hQuiet.droppedInv rfl) fun _ hg => hQuiet.fits hg, h.busy⟩
    | held => exact (h.pauseHeld hState hPause).side
    | paused => exact refuse_engineSide h.side
    | running | waiting | stalled | faultPending | halted => exact (h.setPause true (by simp [hState])).side

/-- An engine without a command that stands ready goes on (R61, R63). -/
theorem standReady_eq_goOn {s : State} (hCurrent : s.engine.current = none)
    (hReason : s.engine.holdReason = .none) (hRecord : s.engine.waitingRecord = none)
    (hPause : s.engine.pauseRequested = false) : standReady s = goOn s := by
  simp [standReady, goOn, State.withEngine, hCurrent, hReason, hRecord, hPause]

theorem leavePaused_engineSide {s : State} (h : Meets s) (hState : s.engine.state = .paused) :
    EngineSide (leavePaused s) := by
  obtain ⟨hPause, hReason⟩ := h.engine.of_paused hState
  unfold leavePaused
  split
  · rename_i hCurrent
    rw [standReady_eq_goOn hCurrent (hReason hCurrent) (h.noRecord (by simp [hState]) (by simp [hState]))
      hPause]
    exact h.goOn (by simp [hState])
  · rename_i c hCurrent
    have hDisposing := h.disposing hCurrent (by simp [hState]) (by simp [hState]) (by simp [hState])
    rcases h.engine.held_reason (.inr hState) hCurrent with ⟨hHeld, hKind⟩ | ⟨hHeld, hKind⟩
    · obtain ⟨hCheck, hFresh⟩ := h.fresh hCurrent (by simp [hState]) (by simp [hState]) (by simp [hState])
        hKind
      rw [hHeld]
      exact .of_mayAsk h.busy (hDisposing.holdRule hPause hKind hCheck hFresh) (holdRule_mayAsk s)
    · have hNotDrawing : ¬ (c.entry.kind = .copy ∨ c.entry.kind = .stamp) := by simp [hKind]
      rw [hHeld]
      dsimp only
      split
      · rename_i hPending
        exact .of_mayAsk h.busy (hDisposing.hold hPending hPause (.inr ⟨rfl, hKind⟩)
          fun hk => absurd hk hNotDrawing) (.inl (hold_arbiter _ s))
      · exact .of_mayAsk h.busy (hDisposing.handOver hKind) (.inl (handOver_arbiter s))

theorem resumeEngine_engineSide {s : State} (h : Meets s) : EngineSide (resumeEngine s) := by
  by_cases hState : s.engine.state = .paused
  · rw [resumeEngine_of_paused hState]
    exact leavePaused_engineSide h hState
  · rw [resumeEngine_of_not_paused hState]
    split
    · exact (h.setPause false (by simp)).side
    · exact refuse_engineSide h.side

theorem continueEngine_engineSide {s : State} (h : Meets s) : EngineSide (continueEngine s) := by
  by_cases hState : s.engine.state = .halted
  · obtain ⟨hCurrent, hReason⟩ := h.engine.of_halted hState
    have hRecord := h.noRecord (by simp [hState]) (by simp [hState])
    have hGoOn : continueEngine s = goOn s := by
      rw [continueEngine, hState]
      cases hPause : s.engine.pauseRequested with
      | false => exact standReady_eq_goOn hCurrent hReason hRecord hPause
      | true => simp [goOn, State.withEngine, hCurrent, hReason, hRecord, hPause, h.notDue]
    rw [hGoOn]
    exact h.goOn (by simp [hState])
  · rw [continueEngine_of_not_halted hState]
    exact refuse_engineSide h.side

/-! ## ABORT -/

/-- An arbiter without an engine grant, its live request withdrawn (R72, R81). -/
theorem Meets.withdrawn {s : State} (h : Meets s) (hGrant : ∀ e, s.arbiter.grant ≠ some (.engine e)) :
    ArbiterQuiet s.arbiter.withdrawEngine := by
  have hNone : s.arbiter.engineRequest.filter (fun e => e.dropped) = none := by
    cases he : s.arbiter.engineRequest with
    | none => rfl
    | some e => simp [h.not_dropped e (.inl he)]
  refine ⟨?_, ?_, h.arbiter.portMapped, h.arbiter.rowInPage⟩
  · rintro e (he | he)
    · exact nomatch hNone.symm.trans he
    · exact hGrant e he
  · simp [Arbiter.withdrawEngine, hNone]

/-- An abort that is noted changes nothing of the work (R62). -/
theorem Meets.noteAbort {s : State} (h : Meets s) {c : Current} (hState : s.engine.state = .running)
    (hCurrent : s.engine.current = some c) : Meets (setCurrent { c with abortNoted := true } s) := by
  refine Meets.withEngine (g := { s.engine with current := some { c with abortNoted := true } }) h h.notDue
    h.record ⟨?_, h.engine.2.1, h.engine.2.2⟩ ⟨h.present.1, h.present.2.1,
      fun _ hs => (nomatch hState.symm.trans hs)⟩ (fun c' hc => ?_)
    (h.arbiter.of_same_work rfl (by rw [hCurrent]; rfl))
  · have hMatch := h.engine.1
    simp only [hState, hCurrent] at hMatch
    simpa only [State.withEngine_engine, hState] using hMatch
  · cases hc
    exact h.drawing c hCurrent

theorem abortRunning_engineSide {s : State} (h : Meets s) {c : Current}
    (hState : s.engine.state = .running) (hCurrent : s.engine.current = some c) :
    EngineSide (abortRunning c s) := by
  unfold abortRunning
  split
  · exact refuse_engineSide h.side
  · split
    · exact (h.noteAbort hState hCurrent).side
    · rename_i hBetween
      rw [drawingInProgress_iff] at hBetween
      have hGrant : ∀ e, s.arbiter.grant ≠ some (.engine e) := by
        rintro ⟨access, dropped⟩ hg
        obtain rfl : dropped = false := h.not_dropped _ (.inr hg)
        exact hBetween (.inl ⟨access, hg⟩)
      have hDisposing : Disposing c (s.withArbiter s.arbiter.withdrawEngine) :=
        ⟨h.bounds, hCurrent, h.noRecord (by simp [hState]) (by simp [hState]), h.notDue, h.present.1,
          h.withdrawn hGrant⟩
      refine ⟨hDisposing.complete _ _ _ _, ?_⟩
      rw [ArbiterBusyInv, complete_arbiter]
      intro hg
      obtain ⟨hRow, hPort, hEngine⟩ := h.busy hg
      exact ⟨hRow, hPort, by simp [Arbiter.withdrawEngine, hEngine]⟩

theorem abortCommand_engineSide {s : State} (h : Meets s) : EngineSide (abortCommand s) := by
  unfold abortCommand
  split
  · exact abortRunning_engineSide h ‹_› ‹_›
  · rename_i c hState hCurrent
    exact h.complete hCurrent (by simp [hState]) (by simp [hState]) (by simp [hState]) _ _ _ _
  · rename_i c hState hCurrent
    split
    · exact h.complete hCurrent (by simp [hState]) (by simp [hState]) (by simp [hState]) _ _ _ _
    · exact h.complete hCurrent (by simp [hState]) (by simp [hState]) (by simp [hState]) _ _ _ _
    all_goals exact refuse_engineSide h.side
  · rename_i c hState hCurrent
    have hDisposing := h.disposing hCurrent (by simp [hState]) (by simp [hState]) (by simp [hState])
    have hAgain : Disposing c (setPauseRequested true s) := hDisposing.withEngine hCurrent rfl rfl
    exact .of_mayAsk (s := setPauseRequested true s) h.busy (hAgain.complete _ _ _ _)
      (.inl (complete_arbiter _ _ _ _ _))
  · exact refuse_engineSide h.side

/-! ## FLUSH, ENGINE_RESET, POP and the push -/

/-- A queue that changes while no take is due. -/
theorem Meets.withQueue {s : State} (h : Meets s) {queue : List Entry} (hLength : queue.length ≤ 16) :
    EngineSide (s.withQueue queue) :=
  ⟨⟨⟨hLength, h.bounds.2⟩, h.record, ⟨h.engine.1, h.engine.2.1, fun hd =>
    Bool.noConfusion (h.notDue.symm.trans hd)⟩, h.present, h.drawing, not_dropped_of_free h.free rfl,
    h.arbiter⟩, h.busy⟩

theorem flushQueue_engineSide {s : State} (h : Meets s) : EngineSide (flushQueue s) :=
  h.withQueue (Nat.zero_le _)

theorem pushEntry_engineSide {s : State} (h : Meets s) (code : Byte) :
    EngineSide (pushEntry code s) := by
  unfold pushEntry
  split
  · exact h.side.of_same rfl rfl rfl rfl rfl rfl id
  · split
    · rename_i hRoom
      refine h.withQueue ?_
      rw [List.length_append]
      exact hRoom
    · exact h.side.of_same rfl rfl rfl rfl rfl rfl id

/-- The engine accesses that an engine reset leaves are those of the arbiter before, dropped (R16). -/
theorem dropEngine_holdsEngine {b : Arbiter} {e : EngineRequest} (h : b.dropEngine.holdsEngine e) :
    e.dropped = true ∧ ∃ e', b.holdsEngine e' ∧ e.access = e'.access := by
  rcases h with h | h
  · obtain ⟨e', he', hAccess⟩ := Option.bind_eq_some_iff.mp h
    cases hKind : e'.access with
    | copyWrite d v =>
      rw [hKind] at hAccess
      cases hAccess
      exact ⟨rfl, e', .inl he', hKind.symm⟩
    | _ => rw [hKind] at hAccess; cases hAccess
  · obtain ⟨g, hg, hMap⟩ := Option.map_eq_some_iff.mp h
    cases g with
    | engine e' =>
      cases hMap
      exact ⟨rfl, e', .inr hg, rfl⟩
    | _ => cases hMap

theorem dropEngine_holdsPort {b : Arbiter} {p : PortAccess} (h : b.dropEngine.holdsPort p) :
    b.holdsPort p := by
  rcases h with h | h
  · exact .inl h
  · obtain ⟨g, hg, hMap⟩ := Option.map_eq_some_iff.mp h
    cases g with
    | port p' => cases hMap; exact .inr hg
    | _ => cases hMap

/-- What an engine reset leaves at the arbiter fits the engine after it (R16). -/
theorem ArbiterFits.dropEngine {g : Engine} {b : Arbiter} (h : ArbiterFits g b) :
    ArbiterFits Engine.reset b.dropEngine where
  oneAccess e he e' hg := by
    obtain ⟨e1, he1, -⟩ := Option.bind_eq_some_iff.mp he
    obtain ⟨g1, hg1, hMap⟩ := Option.map_eq_some_iff.mp hg
    cases g1 with
    | engine e2 => exact h.oneAccess e1 he1 e2 hg1
    | _ => cases hMap
  current e he hd := Bool.noConfusion (hd.symm.trans (dropEngine_holdsEngine he).1)
  asks hRunning := nomatch hRunning
  owed hOwed := by
    obtain ⟨hBefore, hSome⟩ := (Bool.and_eq_true _ _).mp hOwed
    exact ⟨hSome, (h.owed hBefore).2⟩
  portMapped p hp := h.portMapped p (dropEngine_holdsPort hp)
  engineMapped e he a ha := by
    obtain ⟨-, e', he', hAccess⟩ := dropEngine_holdsEngine he
    exact h.engineMapped e' he' a (hAccess ▸ ha)
  rowInPage r hr := h.rowInPage r (dropEngine_holdsRow hr)

/-- ENGINE_RESET (R16, R64). -/
theorem resetEngine_engineSide {s : State} (h : Meets s) : EngineSide (resetEngine s) := by
  refine ⟨⟨⟨Nat.zero_le _, Nat.zero_le _, h.bounds.2.2⟩, ⟨by simp [resetEngine, Engine.reset],
    fun hw => (nomatch hw), Nat.zero_le _⟩, ⟨rfl, fun hp => (nomatch hp), fun hd => (nomatch hd)⟩,
    ⟨fun hp => (nomatch hp), fun hs => (nomatch hs), fun _ hs => (nomatch hs)⟩, drawingInv_of_none rfl,
    fun _ => ⟨rfl, rfl, rfl, ?_⟩, h.arbiter.dropEngine⟩, fun hg => ?_⟩
  · rw [Bool.eq_false_iff, Ne, portBusy_iff]
    rintro ⟨p, hp⟩
    have hBusy : portBusy s = true := (portBusy_iff s).mpr ⟨p, dropEngine_holdsPort hp⟩
    exact Bool.noConfusion (h.portFree.symm.trans hBusy)
  · obtain ⟨hRow, hPort, hEngine⟩ := h.busy (Option.map_eq_none_iff.mp hg)
    exact ⟨hRow, hPort, Option.bind_eq_none_iff.mpr fun e he => (nomatch hEngine.symm.trans he)⟩

theorem popRecord_engineSide {s : State} (h : Meets s) : EngineSide (popRecord s) := by
  unfold popRecord
  split
  · exact refuse_engineSide h.side
  · rename_i r rest hRing
    have hLength := h.bounds.2.1
    rw [hRing, List.length_cons] at hLength
    have hAppended (w : Record) : BoundsInv (s.withRing (rest ++ [w])) :=
      ⟨h.bounds.1, by rw [State.withRing_ring, List.length_append]; exact hLength, h.bounds.2.2⟩
    split
    · rename_i w hState hWaiting
      have hQuiet := h.quiet (by simp [hState])
      exact ⟨goOn_serving (hAppended w) h.present.1 (hQuiet.droppedInv rfl) fun _ hg => hQuiet.fits hg,
        h.busy⟩
    · rename_i w hState hWaiting
      have hQuiet := h.quiet (by simp [hState])
      have hReason : s.engine.holdReason = .none := by
        have hMatch := h.engine.1
        cases hc : s.engine.current <;> simp only [hState, hc] at hMatch
        exact hMatch
      exact ⟨⟨hAppended w, ⟨by simp, fun hw => (nomatch hw), (hAppended w).2.1⟩,
        ⟨hReason, fun _ => by simp, fun hd => Bool.noConfusion (h.notDue.symm.trans hd)⟩,
        ⟨h.present.1, fun hs => (nomatch hs), fun _ hs => (nomatch hs)⟩, drawingInv_of_none rfl,
        hQuiet.droppedInv rfl, hQuiet.fits (by simp)⟩, h.busy⟩
    · rename_i hStalled hPending
      have hNone : s.engine.waitingRecord = none := by
        by_contra hSome
        obtain ⟨w, hw⟩ := Option.ne_none_iff_exists'.mp hSome
        rcases h.record.1.mp (by rw [hw]; rfl) with hState | hState
        · exact hStalled w hState hw
        · exact hPending w hState hw
      refine ⟨⟨⟨h.bounds.1, Nat.le_of_succ_le hLength, h.bounds.2.2⟩, ⟨h.record.1, fun hw => ?_,
        Nat.le_of_succ_le hLength⟩, h.engine, h.present, h.drawing, not_dropped_of_free h.free rfl,
        h.arbiter⟩, h.busy⟩
      exact absurd hw (by simp [hNone])

theorem engineRequest_engineSide {s : State} (h : Meets s) (v : Byte) :
    EngineSide (engineRequest v s) := by
  unfold engineRequest
  split
  · exact pauseEngine_engineSide h
  · exact resumeEngine_engineSide h
  · exact abortCommand_engineSide h
  · exact continueEngine_engineSide h
  · exact flushQueue_engineSide h
  · exact resetEngine_engineSide h
  · exact popRecord_engineSide h
  · exact refuse_engineSide h.side

end Sys2Proof.Machine

namespace Sys2Proof.Machine

/-! # What the other registers and the data port keep of the engine side -/

/-! ## Panel requests and settings

They leave queue, ring, engine, pages and arbiter, and a running scan goes on. -/

theorem powerOnPanel_engineSide {s : State} (h : EngineSide s) : EngineSide (powerOnPanel s) := by
  unfold powerOnPanel
  split
  · rename_i hOff
    refine h.of_same rfl rfl rfl rfl rfl rfl fun hRuns => ?_
    simp [scanRunning, hOff.1, PanelState.scans] at hRuns
  · exact refuse_engineSide h

theorem requestShow_engineSide {s : State} (h : EngineSide s) : EngineSide (requestShow s) := by
  unfold requestShow
  split
  case h_4 | h_5 | h_6 => exact refuse_engineSide h
  all_goals exact h.of_same rfl rfl rfl rfl rfl rfl id

theorem requestBlank_engineSide {s : State} (h : EngineSide s) : EngineSide (requestBlank s) := by
  unfold requestBlank
  split
  case h_4 | h_5 | h_6 => exact refuse_engineSide h
  all_goals exact h.of_same rfl rfl rfl rfl rfl rfl id

theorem powerOffPanel_engineSide {s : State} (h : EngineSide s) : EngineSide (powerOffPanel s) := by
  unfold powerOffPanel
  split
  · rename_i hState
    refine h.of_same rfl rfl rfl rfl rfl rfl fun hRuns => ?_
    simp [scanRunning, hState, PanelState.scans] at hRuns
  · exact h.of_same rfl rfl rfl rfl rfl rfl fun _ => rfl
  · exact h.of_same rfl rfl rfl rfl rfl rfl fun _ => rfl
  all_goals exact h

theorem panelRequest_engineSide {s : State} (h : EngineSide s) (v : Byte) :
    EngineSide (panelRequest v s) := by
  unfold panelRequest
  split
  · exact powerOnPanel_engineSide h
  · exact requestShow_engineSide h
  · exact requestBlank_engineSide h
  · exact powerOffPanel_engineSide h
  · exact refuse_engineSide h

/-- SPACE_THRESHOLD takes 1 to 16 alone (R32). -/
theorem setSpaceThreshold_engineSide {s : State} (h : EngineSide s) (v : Byte) :
    EngineSide (setSpaceThreshold v s) := by
  unfold setSpaceThreshold
  split
  · rename_i hRange
    obtain ⟨⟨hBounds, hRecord, hEngine, hPresent, hDrawing, hDropped, hArbiter⟩, hBusy⟩ := h
    exact ⟨⟨⟨hBounds.1, hBounds.2.1, hRange⟩, hRecord, hEngine, hPresent, hDrawing, hDropped, hArbiter⟩,
      hBusy⟩
  · exact refuse_engineSide h

theorem setSupplyEnable_engineSide {s : State} (h : EngineSide s) (v : Byte) :
    EngineSide (setSupplyEnable v s) := by
  unfold setSupplyEnable
  split
  · exact h
  · exact h.of_same rfl rfl rfl rfl rfl rfl id

/-! ## The data port -/

/-- The row latch ahead of an owed engine request ends, and the part is as ready as before. -/
theorem owedRowEnds {s : State} (h : EngineSide s) (hReady : Ready s) (hBehind : OwedBehindRow s.arbiter) :
    EngineSide (endGrant s) ∧ Ready (endGrant s) ∧ (endGrant s).port = s.port := by
  obtain ⟨r, p, hGrant⟩ := hBehind.row
  refine ⟨endGrant_serving h.1, ?_⟩
  rw [endGrant_of_row hGrant]
  exact ⟨ready_endRowRead hReady r p, endRowRead_port r p s⟩

/-- What a data-port grant is requested in: a ready part in which no engine request is owed (R9). -/
theorem beforePortGrant_meets {s : State} (h : EngineSide s) (hReady : Ready s) :
    EngineSide (beforePortGrant s) ∧ Ready (beforePortGrant s) ∧
      (beforePortGrant s).arbiter.engineOwed = false ∧ (beforePortGrant s).port = s.port := by
  cases hOwed : s.arbiter.engineOwed with
  | false =>
    rw [beforePortGrant_of_not_owed hOwed]
    exact ⟨h, hReady, hOwed, rfl⟩
  | true =>
    have hBehind := owedBehindRow_of_ready hReady h.serviceInv hOwed
    obtain ⟨hSide, hNext, hPort⟩ := owedRowEnds h hReady hBehind
    rw [beforePortGrant_endGrant hBehind]
    by_cases hRow : s.arbiter.rowRequest = none
    · have hGranted := (hBehind.endGrant.1 hRow).1
      rw [beforePortGrant_of_not_owed hGranted]
      exact ⟨hSide, hNext, hGranted, hPort⟩
    · obtain ⟨hAgain, hNone⟩ := hBehind.endGrant.2 hRow
      obtain ⟨hSide', hNext', hPort'⟩ := owedRowEnds hSide hNext hAgain
      have hGranted := (hAgain.endGrant.1 hNone).1
      rw [beforePortGrant_of_owed hAgain.owed hGranted]
      exact ⟨hSide', hNext', hGranted, hPort'.trans hPort⟩

/-- A data-port grant is requested for a mapped byte (R6, R11). -/
theorem requestPort_engineSide {s : State} (h : Meets s) (hOwed : s.arbiter.engineOwed = false)
    {access : PortAccess} (hMapped : mapped access.address = true) :
    EngineSide (requestPort access s) := by
  have hArbiter : ArbiterFits s.engine { s.arbiter with portRequest := some access } :=
    { h.arbiter with
      owed := fun hd => Bool.noConfusion (hOwed.symm.trans hd)
      portMapped := fun p hp => by
        rcases hp with hp | hp
        · cases hp
          exact hMapped
        · exact h.arbiter.portMapped p (.inr hp) }
  have hDropped : DroppedInv (s.withArbiter { s.arbiter with portRequest := some access }) :=
    droppedInv_of_none fun e he => h.not_dropped e he
  have hServing : Serving (s.withArbiter { s.arbiter with portRequest := some access }) :=
    h.toServing.of_blocks rfl rfl rfl rfl rfl id hArbiter hDropped
  exact hServing.arbitrate

/-- The port changes and nothing else. -/
theorem Meets.withPort {s : State} (h : Meets s) (x : Port) : Meets (s.withPort x) :=
  ⟨h.toServing.of_same rfl rfl rfl rfl rfl rfl id, h.busy, h.notDue, h.free⟩

theorem Meets.advancePointer {s : State} (h : Meets s) : Meets (advancePointer s) := h.withPort _

theorem readPortData_engineSide {s : State} (h : EngineSide s) (hReady : Ready s) :
    EngineSide (readPortData s) := by
  by_cases hMapped : mapped s.port.pointer.toNat = true
  · obtain ⟨hSide, hNext, hOwed, -⟩ := beforePortGrant_meets h hReady
    rw [readPortData_of_mapped hMapped]
    have hMeets := (hSide.meets hNext).withPort { (beforePortGrant s).port with readValue := none }
    exact requestPort_engineSide (access := .read _) hMeets.advancePointer hOwed hMapped
  · rw [readPortData_of_unmapped hMapped]
    exact h.of_same rfl rfl rfl rfl rfl rfl id

theorem writePortData_engineSide {s : State} (h : EngineSide s) (hReady : Ready s) (v : Byte) :
    EngineSide (writePortData v s) := by
  by_cases hMapped : mapped s.port.pointer.toNat = true
  · obtain ⟨hSide, hNext, hOwed, -⟩ := beforePortGrant_meets h hReady
    rw [writePortData_of_mapped v hMapped]
    exact requestPort_engineSide (access := .write _ v) (hSide.meets hNext).advancePointer hOwed hMapped
  · rw [writePortData_of_unmapped v hMapped]
    exact h.of_same rfl rfl rfl rfl rfl rfl id

/-! ## Every register -/

theorem writeRegister_engineSide {s : State} (h : EngineSide s) (hReady : Ready s) (offset : BitVec 6)
    (v : Byte) : EngineSide (writeRegister offset v s) := by
  have hMeets := h.meets hReady
  have hBlocks (staging : Staging) (scanner : Scanner) (compositor : Compositor) (port : Port) (irq : Irq) :
      EngineSide { s with
        staging := staging, scanner := scanner, compositor := compositor, port := port, irq := irq } :=
    h.of_same rfl rfl rfl rfl rfl rfl id
  unfold writeRegister
  split
  · exact engineRequest_engineSide hMeets v
  · exact setSpaceThreshold_engineSide h v
  · exact pushEntry_engineSide hMeets v
  iterate 13 exact hBlocks _ _ _ _ _
  · exact panelRequest_engineSide h v
  iterate 2 exact h.of_same rfl rfl rfl rfl rfl rfl id
  · exact setSupplyEnable_engineSide h v
  iterate 2 exact hBlocks _ _ _ _ _
  · exact writePortData_engineSide h hReady v
  iterate 6 exact hBlocks _ _ _ _ _
  · exact h

end Sys2Proof.Machine

namespace Sys2Proof.Machine

/-! # What the events of the scan, the timers and the reset inputs keep of the engine side -/

/-! ## The arbiter at a stop of the scan -/

theorem discardRow_holdsEngine {b : Arbiter} {e : EngineRequest} (h : b.discardRow.holdsEngine e) :
    b.holdsEngine e := by
  rcases h with h | h
  · exact .inl h
  · obtain ⟨g, hg, hMap⟩ := Option.map_eq_some_iff.mp h
    cases g with
    | engine e' => cases hMap; exact .inr hg
    | _ => cases hMap

theorem discardRow_holdsPort {b : Arbiter} {p : PortAccess} (h : b.discardRow.holdsPort p) :
    b.holdsPort p := by
  rcases h with h | h
  · exact .inl h
  · obtain ⟨g, hg, hMap⟩ := Option.map_eq_some_iff.mp h
    cases g with
    | port p' => cases hMap; exact .inr hg
    | _ => cases hMap

theorem discardRow_grant_engine {b : Arbiter} {e : EngineRequest} (h : b.grant = some (.engine e)) :
    b.discardRow.grant = some (.engine e) := by
  simp [Arbiter.discardRow, h]

theorem discardRow_row {b : Arbiter} {r : RowRequest} (h : b.discardRow.holdsRow r) :
    ∃ r', b.holdsRow r' ∧ r'.row = r.row := by
  rcases h with h | ⟨p, h⟩
  · obtain ⟨r', hr', rfl⟩ := Option.map_eq_some_iff.mp h
    exact ⟨r', .inl hr', rfl⟩
  · obtain ⟨g, hg, hMap⟩ := Option.map_eq_some_iff.mp h
    cases g with
    | row r' p' => cases hMap; exact ⟨r', .inr ⟨_, hg⟩, rfl⟩
    | _ => cases hMap

theorem ArbiterFits.discardRow {g : Engine} {b : Arbiter} (h : ArbiterFits g b) :
    ArbiterFits g b.discardRow where
  oneAccess e he e' hg := by
    rcases discardRow_holdsEngine (.inr hg) with he' | hg'
    · obtain ⟨g', hg', hMap⟩ := Option.map_eq_some_iff.mp hg
      cases g' with
      | engine e2 => exact h.oneAccess e he e2 hg'
      | _ => cases hMap
    · exact h.oneAccess e he e' hg'
  current e he := h.current e (discardRow_holdsEngine he)
  asks hRunning := by
    obtain ⟨e, he⟩ := h.asks hRunning
    exact ⟨e, he.imp_right discardRow_grant_engine⟩
  owed := h.owed
  portMapped p hp := h.portMapped p (discardRow_holdsPort hp)
  engineMapped e he := h.engineMapped e (discardRow_holdsEngine he)
  rowInPage r hr := by
    obtain ⟨r', hr', hRow⟩ := discardRow_row hr
    exact hRow ▸ h.rowInPage r' hr'

/-! ## The engine at a boundary or a stop -/

/-- The state in which the engine takes its part of a boundary or stop that state `s` meets: the pending page
switched, and the row requests discarded where the scan has stopped (R107, R108, R123). -/
structure Switched (s t : State) : Prop where
  queue : t.queue = s.queue
  ring : t.ring = s.ring
  threshold : t.spaceThreshold = s.spaceThreshold
  engine : t.engine = s.engine
  pages : t.pages = s.pages.switched
  arbiter : t.arbiter = s.arbiter ∨ t.arbiter = s.arbiter.discardRow

section
variable {s t : State} (h : EngineSide s) (hSwitched : Switched s t)
include hSwitched

theorem Switched.pending : t.pages.pending = none := by
  rw [hSwitched.pages, Presentation.switched_pending]

theorem Switched.holdsEngine {e : EngineRequest} (he : t.arbiter.holdsEngine e) :
    s.arbiter.holdsEngine e := by
  rcases hSwitched.arbiter with hArbiter | hArbiter <;> rw [hArbiter] at he
  · exact he
  · exact discardRow_holdsEngine he

theorem Switched.holdsPort {p : PortAccess} (hp : t.arbiter.holdsPort p) : s.arbiter.holdsPort p := by
  rcases hSwitched.arbiter with hArbiter | hArbiter <;> rw [hArbiter] at hp
  · exact hp
  · exact discardRow_holdsPort hp

include h

theorem Switched.fits : ArbiterFits t.engine t.arbiter := by
  rw [hSwitched.engine]
  rcases hSwitched.arbiter with hArbiter | hArbiter <;> rw [hArbiter]
  · exact h.1.arbiter
  · exact h.1.arbiter.discardRow

theorem Switched.busy : ArbiterBusyInv t := by
  rw [ArbiterBusyInv]
  rcases hSwitched.arbiter with hArbiter | hArbiter <;> rw [hArbiter]
  · exact h.2
  · exact discardRow_busy h.2

theorem Switched.bounds : BoundsInv t := by
  have hBounds := h.1.bounds
  rwa [BoundsInv, ← hSwitched.queue, ← hSwitched.ring, ← hSwitched.threshold] at hBounds

theorem Switched.droppedInv : DroppedInv t := by
  intro hDropped
  obtain ⟨e, he, hd⟩ := (droppedOutstanding_iff t).mp hDropped
  obtain ⟨hEngine, hQueue, -, hPort⟩ :=
    h.1.dropped ((droppedOutstanding_iff s).mpr ⟨e, hSwitched.holdsEngine he, hd⟩)
  refine ⟨hSwitched.engine.trans hEngine, hSwitched.queue.trans hQueue, hSwitched.pending, ?_⟩
  rw [Bool.eq_false_iff, Ne, portBusy_iff]
  rintro ⟨p, hp⟩
  exact Bool.noConfusion (hPort.symm.trans ((portBusy_iff s).mpr ⟨p, hSwitched.holdsPort hp⟩))

/-- A command that waits or is held takes its part of the event (R45, R54, R55, R111). -/
theorem Switched.disposing {c : Current} (hCurrent : s.engine.current = some c)
    (hState : s.engine.state = .waiting ∨ s.engine.state = .held) : Disposing c t := by
  obtain ⟨-, hCurrent', hRecord, hDue, -, hQuiet⟩ :=
    h.1.disposing hCurrent (by rcases hState with h | h <;> simp [h])
      (by rcases hState with h | h <;> simp [h]) (by rcases hState with h | h <;> simp [h])
  rw [← hSwitched.engine] at hCurrent' hRecord hDue
  exact ⟨hSwitched.bounds h, hCurrent', hRecord, hDue,
    fun hSome => absurd hSome (by simp [hSwitched.pending]),
    (hSwitched.fits h).quiet fun e he => hQuiet.noAccess e (hSwitched.holdsEngine he)⟩

/-- An engine that neither waits nor is held stands as it is. -/
theorem Switched.serving (hWaiting : s.engine.state ≠ .waiting) (hHeld : s.engine.state ≠ .held) :
    Serving t where
  bounds := hSwitched.bounds h
  record := by
    have hRecord := h.1.record
    rwa [WaitingRecordInv, ← hSwitched.engine, ← hSwitched.ring] at hRecord
  engine := by
    have hEngine := h.1.engine
    rwa [EngineInv, ← hSwitched.engine, ← hSwitched.queue] at hEngine
  present := by
    rw [PresentInv, hSwitched.engine, hSwitched.pending]
    exact ⟨fun hs => (nomatch hs), fun hs => absurd hs hHeld, fun _ hs => absurd hs hWaiting⟩
  drawing := by
    have hDrawing := h.1.drawing
    rwa [DrawingInv, ← hSwitched.engine] at hDrawing
  dropped := hSwitched.droppedInv h
  arbiter := hSwitched.fits h

end

/-- A WAIT that counts and stays, or ends (R54, R55). -/
theorem waitCounted_serving {c : Current} {t : State} (h : Disposing c t) (hState : t.engine.state = .waiting)
    (hReason : t.engine.holdReason = .none) (hKind : c.entry.kind = .wait) (counted stopped switched : Bool)
    (hRuns : stopped = false → scanRunning t = true) :
    Serving (engineTakesScanEvent counted stopped switched t) := by
  have hCounted (n : Nat) : Disposing { c with progress := n } (waitProgress c n t) :=
    h.withEngine rfl rfl rfl
  rw [engineTakesScanEvent]
  simp only [hState, h.current, hKind]
  generalize (if counted then c.progress + 1 else c.progress) = n
  split_ifs with hDone hStopped
  · exact (hCounted n).complete _ _ _ _
  · exact (hCounted n).complete _ _ _ _
  · exact (hCounted n).waits (hRuns (Bool.eq_false_of_not_eq_true hStopped)) hReason (.inl hKind)

/-- A boundary or a stop of a running scan leaves the engine in a legal state (R45, R54, R55, R111). -/
theorem scanEvent_engineSide {s t : State} (h : EngineSide s) (hSwitched : Switched s t)
    (counted stopped : Bool) (hRuns : stopped = false → scanRunning t = true) :
    EngineSide (engineTakesScanEvent counted stopped s.pages.pending.isSome t) := by
  refine .of_mayAsk (hSwitched.busy h) ?_ (engineTakesScanEvent_mayAsk _ _ _ _)
  have hEngine := hSwitched.engine
  by_cases hWaiting : s.engine.state = .waiting
  · have hMatch := h.1.engine.1
    cases hCurrent : s.engine.current with
    | none => simp only [hWaiting, hCurrent] at hMatch
    | some c =>
      simp only [hWaiting, hCurrent] at hMatch
      obtain ⟨hKind, hReason⟩ := hMatch
      have hDisposing := hSwitched.disposing h hCurrent (.inl hWaiting)
      have hWaiting' : t.engine.state = .waiting := hEngine ▸ hWaiting
      rcases hKind with hKind | hKind
      · exact waitCounted_serving hDisposing hWaiting' (hEngine ▸ hReason) hKind _ _ _ hRuns
      · have hPending := (h.1.present.2.2 c hWaiting hCurrent).1 hKind
        have hShown : t.pages.shown = c.entry.presentPage := by
          rw [hSwitched.pages, Presentation.switched_of_some hPending]
        rw [hPending, engineTakesScanEvent]
        simp only [hWaiting', hDisposing.current, hKind, hShown, Option.isSome_some, Bool.true_and,
          beq_self_eq_true, if_true]
        exact hDisposing.complete _ _ _ _
  · by_cases hHeld : s.engine.state = .held
    · have hMatch := h.1.engine.1
      cases hCurrent : s.engine.current with
      | none => simp only [hHeld, hCurrent] at hMatch
      | some c =>
        have hDisposing := hSwitched.disposing h hCurrent (.inr hHeld)
        have hPause : t.engine.pauseRequested = false := by
          rw [hEngine]
          by_contra hSome
          simpa [hHeld] using h.1.engine.2.1 (Bool.not_eq_false _ ▸ hSome)
        rw [h.1.present.2.1 hHeld, engineTakesScanEvent_held (hEngine ▸ hHeld) hDisposing.current, reevaluate,
          hEngine]
        rcases h.1.engine.held_reason (.inl hHeld) hCurrent with ⟨hReason, hKind⟩ | ⟨hReason, hKind⟩
        · obtain ⟨hCheck, hFresh⟩ := h.1.fresh hCurrent (by simp [hHeld]) (by simp [hHeld])
            (by simp [hHeld]) hKind
          rw [hReason]
          exact hDisposing.holdRule hPause hKind hCheck hFresh
        · rw [hReason]
          exact hDisposing.handOver hKind
    · rw [engineTakesScanEvent_idle _ _ _ (hEngine ▸ hWaiting) fun hs => absurd (hEngine ▸ hs) hHeld]
      exact hSwitched.serving h hWaiting hHeld

/-! ## The start of a row -/

theorem ScanConfig.commons_le (c : ScanConfig) : c.commons ≤ 20 := by
  have := c.commonsCode.isLt
  unfold ScanConfig.commons
  omega

/-- A row of the page starts: its latch is requested (R126). -/
theorem startRow_engineSide {s : State} (h : EngineSide s) (polarity : Polarity) {row : Nat}
    (hRow : row < 20) : EngineSide (startRow polarity row s) := by
  have hArbiter : ArbiterFits s.engine { s.arbiter with rowRequest := some ⟨row, false⟩ } :=
    { h.1.arbiter with
      rowInPage := fun r hr => by
        rcases hr with hr | hr
        · cases hr
          exact hRow
        · exact h.1.arbiter.rowInPage r (.inr hr) }
  have hServing : Serving (atRow polarity row s) := h.1.of_blocks rfl rfl rfl rfl rfl id hArbiter
    (h.1.dropped.of_arbiter rfl rfl rfl (fun _ he _ => he) fun _ hp => hp)
  rw [startRow_eq_arbitrate]
  exact hServing.arbitrate

theorem rowEnds_engineSide {s : State} (h : EngineSide s) : EngineSide (rowEnds s) := by
  unfold rowEnds
  split
  · rename_i hRow
    exact startRow_engineSide h _ (Nat.lt_of_lt_of_le hRow.2 (ScanConfig.commons_le _))
  · exact h

theorem positiveFrameEnds_engineSide {s : State} (h : EngineSide s) : EngineSide (positiveFrameEnds s) := by
  unfold positiveFrameEnds
  split
  · have hCounted : EngineSide (countFrame s) := h.of_same rfl rfl rfl rfl rfl rfl id
    exact startRow_engineSide hCounted _ (by decide)
  · exact h

/-! ## The pair boundary -/

theorem pairTaken_switched (s : State) : Switched s (pairTaken s) := by
  by_cases hStopping : s.panel.state = .stopping
  · rw [pairTaken_of_stopping hStopping]
    exact ⟨rfl, rfl, rfl, rfl, rfl, .inr rfl⟩
  · rw [pairTaken_of_going hStopping, panelAtPairBoundary_whole]
    exact ⟨rfl, rfl, rfl, rfl, rfl, .inl rfl⟩

theorem panel_scans_cases {s : State} (hRuns : scanRunning s = true)
    (hGoing : s.panel.state ≠ .stopping) : s.panel.state = .blanked ∨ s.panel.state = .showing := by
  unfold scanRunning at hRuns
  cases hState : s.panel.state <;> simp_all [PanelState.scans]

theorem negativeFrameEnds_engineSide {s : State} (h : EngineSide s) : EngineSide (negativeFrameEnds s) := by
  unfold negativeFrameEnds
  split
  · rename_i hEnds
    by_cases hStopping : s.panel.state = .stopping
    · rw [takePairBoundary_of_stopping hStopping]
      exact scanEvent_engineSide h (pairTaken_switched s) _ _ (nomatch ·)
    · rw [takePairBoundary_of_going hStopping]
      exact startRow_engineSide (scanEvent_engineSide h (pairTaken_switched s) _ _ fun _ =>
        pairTaken_scanRunning (panel_scans_cases hEnds.1 hStopping)) _ (by decide)
  · exact h

/-! ## The timers -/

theorem enterDischarging_engineSide {s : State} (h : EngineSide s) (hStopped : ¬ scanRunning s = true) :
    EngineSide (enterDischarging s) :=
  h.of_same rfl rfl rfl rfl rfl rfl fun hRuns => absurd hRuns hStopped

/-- The state in which the engine takes its part of an emergency discharge. -/
theorem discharged_switched (s : State) :
    Switched s (switchPage (stopDrive (enterDischarging s))) := by
  rw [switchPage_switched, stopDrive_enterDischarging]
  exact ⟨rfl, rfl, rfl, rfl, rfl, .inr rfl⟩

theorem emergencyDischarge_engineSide {s : State} (h : EngineSide s) :
    EngineSide (emergencyDischarge s) := by
  unfold emergencyDischarge
  split
  · exact scanEvent_engineSide h (discharged_switched s) _ _ (nomatch ·)
  · exact enterDischarging_engineSide h ‹_›

theorem takeSample_engineSide {s : State} (h : EngineSide s) (millivolts : Nat) :
    EngineSide (takeSample millivolts s) := by
  have hRecorded : EngineSide (recordSample millivolts s) := h.of_same rfl rfl rfl rfl rfl rfl id
  have hLatched : EngineSide (latchSupply (recordSample millivolts s)) :=
    hRecorded.of_same rfl rfl rfl rfl rfl rfl id
  unfold takeSample
  dsimp only
  split_ifs
  · exact emergencyDischarge_engineSide hLatched
  · exact hLatched
  · exact hRecorded

theorem not_running_of_charging {s : State} (h : s.panel.state = .charging) : ¬ scanRunning s = true := by
  simp [scanRunning, h, PanelState.scans]

theorem not_running_of_discharging {s : State} (h : s.panel.state = .discharging) :
    ¬ scanRunning s = true := by
  simp [scanRunning, h, PanelState.scans]

theorem chargeTimerEnds_engineSide {s : State} (h : EngineSide s) : EngineSide (chargeTimerEnds s) := by
  unfold chargeTimerEnds
  split
  · rename_i hCharging
    have hBlanked : EngineSide (enterPanel .blanked (s.withPanel { s.panel with
        chargeTimer := none
        showAfterCharge := false
        pending := if s.panel.showAfterCharge then .show else .none })) :=
      h.of_same rfl rfl rfl rfl rfl rfl fun hRuns => absurd hRuns (not_running_of_charging hCharging)
    exact startRow_engineSide hBlanked _ (by decide)
  · exact h

theorem dischargeTimerEnds_engineSide {s : State} (h : EngineSide s) :
    EngineSide (dischargeTimerEnds s) := by
  unfold dischargeTimerEnds
  split
  · rename_i hDischarging
    exact h.of_same rfl rfl rfl rfl rfl rfl fun hRuns =>
      absurd hRuns (not_running_of_discharging hDischarging)
  · exact h

/-! ## The reset inputs -/

theorem resetBlocks_engineSide (memory : List Host.Cell) (inputs : ResetInputs) (s : State) :
    EngineSide (resetBlocks memory inputs s) :=
  (engineSide_of_inv reset_inv).of_same rfl rfl rfl rfl rfl rfl (nomatch ·)

theorem takePowerOnReset_engineSide (s : State) : EngineSide (takePowerOnReset s) :=
  (resetBlocks_engineSide [] { s.resetInputs with powerOn := .supplyLow } s).of_same rfl rfl rfl rfl rfl rfl
    id

theorem sampleTimerEnds_engineSide {s : State} (h : EngineSide s) (millivolts : Nat) :
    EngineSide (sampleTimerEnds millivolts s) := by
  unfold sampleTimerEnds
  split_ifs
  · exact takePowerOnReset_engineSide s
  · exact takeSample_engineSide h millivolts
  · exact h

theorem releaseReset_engineSide {s : State} (h : EngineSide s) : EngineSide (releaseReset s) := by
  unfold releaseReset
  split
  · exact h.of_same rfl rfl rfl rfl rfl rfl id
  · exact h

theorem takeSupplyRise_engineSide {s : State} (h : EngineSide s) : EngineSide (takeSupplyRise s) := by
  unfold takeSupplyRise
  split
  · exact h.of_same rfl rfl rfl rfl rfl rfl id
  · exact h

theorem takePowerOnRelease_engineSide {s : State} (h : EngineSide s) :
    EngineSide (takePowerOnRelease s) := by
  unfold takePowerOnRelease
  split
  · exact h.of_same rfl rfl rfl rfl rfl rfl id
  all_goals exact h

/-! ## Every command and every step -/

theorem timed_engineSide {c : Instr} {event : State → State} (hRole : role c = .timed event) (s : State)
    (h : EngineSide s) : EngineSide (event s) :=
  timed_cases (motive := fun _ f => EngineSide (f s)) (rowEnds_engineSide h)
    (positiveFrameEnds_engineSide h) (negativeFrameEnds_engineSide h) (chargeTimerEnds_engineSide h)
    (dischargeTimerEnds_engineSide h) (sampleTimerEnds_engineSide h) hRole

theorem reset_engineSide {c : Instr} {event : State → State} (hRole : role c = .reset event) (s : State)
    (h : EngineSide s) : EngineSide (event s) :=
  reset_cases (motive := fun f => EngineSide (f s)) (resetBlocks_engineSide _ _ s)
    (releaseReset_engineSide h) (takePowerOnReset_engineSide s) (takeSupplyRise_engineSide h)
    (takePowerOnRelease_engineSide h) hRole

theorem exec_engineSide (c : Instr) (s : State) (h : EngineSide s) :
    ∃ t, exec c s = .next t ∧ EngineSide t :=
  exec_leads (Met := Ready) (Still := fun _ => True) engineSide_keptByPart (fun _ h => h)
    (fun _ h hOut => beforeAccess_ready h hOut) (fun _ _ => trivial)
    (fun offset v _ h hReady => writeRegister_engineSide h hReady offset v)
    (fun _ h hReady => readPortData_engineSide h hReady)
    (fun _ h _ => h.of_same rfl rfl rfl rfl rfl rfl id) c
    (fun _ hRole t ht _ => timed_engineSide hRole t ht) (fun _ hRole t ht => reset_engineSide hRole t ht) s h

/-- Settles O59: every command and every tick keeps the engine side, and so does every step. -/
theorem everyStepKeepsTheEngineInvariants : Obligations.EveryStepKeepsTheEngineInvariants := by
  intro s hInv t hStep
  have hSide : EngineSide t := step_keeps (P := EngineSide)
    (fun _ _ _ h => h.of_same rfl rfl rfl rfl rfl rfl id)
    (fun _ _ h => h.of_same rfl rfl rfl rfl rfl rfl id)
    (fun _ _ _ h => h.of_same rfl rfl rfl rfl rfl rfl id)
    (fun c s t hExec h => by
      obtain ⟨u, hu, hSide⟩ := exec_engineSide c s h
      cases hExec.symm.trans hu
      exact hSide) hStep (engineSide_of_inv hInv)
  exact ⟨hSide.1.bounds, hSide.1.record, hSide.1.engine, hSide.1.present, hSide.engineAccessInv, hSide.2,
    hSide.serviceInv, hSide.1.dropped, hSide.1.drawing, hSide.1.mappedInv⟩

end Sys2Proof.Machine

namespace Sys2Proof.Machine

/-! # No tearing (R182)

A COPY or STAMP without LIVE that runs has begun where it touches no page on the glass. What comes after
its beginning changes neither its entry nor the pages, but for a switch to a page it does not touch. -/

/-! ## The same work on the same picture -/

/-- From `s` to `t` the pages stand, no scan starts, and a running command is the one that ran. -/
structure SameWork (s t : State) : Prop where
  pages : t.pages = s.pages
  scan : scanRunning t = true → scanRunning s = true
  work : t.engine.state = .running → ∀ c, t.engine.current = some c →
    s.engine.state = .running ∧ ∃ c', s.engine.current = some c' ∧ c'.entry = c.entry

theorem SameWork.of_same {s t : State} (hPages : t.pages = s.pages) (hEngine : t.engine = s.engine)
    (hScan : scanRunning t = true → scanRunning s = true) : SameWork s t :=
  ⟨hPages, hScan, fun hState c hCurrent => ⟨hEngine ▸ hState, c, hEngine ▸ hCurrent, rfl⟩⟩

theorem SameWork.refl (s : State) : SameWork s s := .of_same rfl rfl id

theorem SameWork.trans {s t u : State} (h : SameWork s t) (h' : SameWork t u) : SameWork s u where
  pages := h'.pages.trans h.pages
  scan hRuns := h.scan (h'.scan hRuns)
  work hState c hCurrent := by
    obtain ⟨hState', c', hCurrent', hEntry⟩ := h'.work hState c hCurrent
    obtain ⟨hBefore, c0, hCurrent0, hEntry0⟩ := h.work hState' c' hCurrent'
    exact ⟨hBefore, c0, hCurrent0, hEntry0.trans hEntry⟩

/-- An engine that does not run does no work. -/
theorem SameWork.of_not_running {s t : State} (hPages : t.pages = s.pages)
    (hScan : scanRunning t = true → scanRunning s = true) (hState : t.engine.state ≠ .running) :
    SameWork s t :=
  ⟨hPages, hScan, fun h => absurd h hState⟩

theorem TearFree.of_sameWork {s t : State} (h : TearFree s) (hSame : SameWork s t) : TearFree t := by
  intro c hState hCurrent hLive hRuns
  obtain ⟨hBefore, c', hCurrent', hEntry⟩ := hSame.work hState c hCurrent
  rw [hSame.pages, ← hEntry]
  exact h c' hBefore hCurrent' (hEntry ▸ hLive) (hSame.scan hRuns)

theorem tearFree_of_not_running {t : State} (h : t.engine.state ≠ .running) : TearFree t :=
  fun _ hState => absurd hState h

theorem arbitrate_sameWork (s : State) : SameWork s (arbitrate s) := by
  obtain ⟨b, h⟩ := arbitrate_frame s
  rw [h]
  exact .of_same rfl rfl id

theorem raiseEngine_sameWork (s : State) : SameWork s (raiseEngine s) := by
  obtain ⟨b, h⟩ := raiseEngine_frame s
  rw [h]
  exact .of_same rfl rfl id

/-- Serving after it changes nothing of the work, and neither does a request of the engine. -/
theorem SameWork.arbitrated {s t : State} (h : SameWork s t) : SameWork s (arbitrate t) :=
  h.trans (arbitrate_sameWork t)

theorem SameWork.raised {s t : State} (h : SameWork s t) : SameWork s (raiseEngine t) :=
  h.trans (raiseEngine_sameWork t)

/-! ## The endings -/

theorem goOn_not_running (s : State) : (goOn s).engine.state ≠ .running := by
  unfold goOn
  cases s.engine.pauseRequested <;> simp

/-- An ending leaves no command running. -/
theorem complete_not_running {s : State} {c : Current} (h : s.engine.current = some c) (status : Status)
    (progress : Nat) (clipped held : Bool) :
    (complete status progress clipped held s).engine.state ≠ .running := by
  rw [complete_eq h, endsNormally]
  split
  · split
    · exact goOn_not_running (s.withRing _)
    · simp
  · exact goOn_not_running s

theorem complete_sameWork (status : Status) (progress : Nat) (clipped held : Bool) (s : State) :
    SameWork s (complete status progress clipped held s) := by
  cases hCurrent : s.engine.current with
  | none => simpa only [complete, hCurrent] using SameWork.refl s
  | some c =>
    have hState := complete_not_running hCurrent status progress clipped held
    obtain ⟨ring, engine, hFrame⟩ := complete_frame status progress clipped held s
    rw [hFrame] at hState ⊢
    exact .of_not_running rfl id hState

theorem SameWork.completed {s t : State} (h : SameWork s t) {status : Status} {progress : Nat}
    {clipped held : Bool} : SameWork s (complete status progress clipped held t) :=
  h.trans (complete_sameWork _ _ _ _ t)

theorem faultWith_not_running {s : State} {c : Current} (h : s.engine.current = some c) (status : Status) :
    (faultWith status s).engine.state ≠ .running := by
  rw [faultWith_eq h, endsInFault]
  split <;> simp

theorem hold_not_running {s : State} {c : Current} (h : s.engine.current = some c) (reason : HoldReason) :
    (hold reason s).engine.state ≠ .running := by
  simp [hold_eq h]

theorem handOver_not_running {s : State} {c : Current} (h : s.engine.current = some c) :
    (handOver s).engine.state ≠ .running := by
  unfold handOver
  simp only [h]
  split
  · split
    · simp
    · exact complete_not_running (by exact h) _ _ _ _
  · exact complete_not_running (by exact h) _ _ _ _

/-! ## The beginnings -/

/-- A command that begins is the current one, and the pages stand (R40). -/
theorem beginDrawing_entry {s : State} {c : Current} (h : s.engine.current = some c) :
    (beginDrawing s).pages = s.pages ∧ scanRunning (beginDrawing s) = scanRunning s ∧
      ∀ c', (beginDrawing s).engine.current = some c' → c'.entry = c.entry := by
  unfold beginDrawing
  simp only [h]
  obtain ⟨b, hFrame⟩ := raiseEngine_frame (s.withEngine { s.engine with
    state := .running, holdReason := .none
    current := some { c with clipped := c.entry.kind == .stamp && c.entry.isClipped } })
  rw [hFrame]
  refine ⟨rfl, rfl, fun c' hc => ?_⟩
  cases hc
  rfl

theorem beginDrawing_tearFree {s : State} {c : Current} (h : s.engine.current = some c)
    (hPages : c.entry.flags.getLsbD 1 = false → scanRunning s = true →
      c.entry.touches s.pages.shown = false ∧ ∀ q, s.pages.pending = some q → c.entry.touches q = false) :
    TearFree (beginDrawing s) := by
  obtain ⟨hSame, hScan, hEntry⟩ := beginDrawing_entry h
  intro c' _ hCurrent hLive hRuns
  rw [hEntry c' hCurrent] at hLive ⊢
  rw [hSame]
  exact hPages hLive (hScan ▸ hRuns)

/-- The hold rule begins no command that touches a page on the glass (R43). -/
theorem holdRule_tearFree {s : State} {c : Current} (h : s.engine.current = some c) :
    TearFree (holdRule s) := by
  by_cases hRule : HoldRuleAllows c.entry s
  · rw [holdRule_begins h hRule]
    refine beginDrawing_tearFree h fun _ hRuns => ?_
    unfold HoldRuleAllows at hRule
    cases hPending : s.pages.pending with
    | none =>
      rw [hPending] at hRule
      exact ⟨hRule.resolve_left (by simp [hRuns]), fun _ hq => (nomatch hq)⟩
    | some q =>
      rw [hPending] at hRule
      refine ⟨hRule.2, fun q' hq => ?_⟩
      cases hq
      exact hRule.1
  · cases hPending : s.pages.pending with
    | none =>
      rw [holdRule_faults h hRule hPending]
      exact tearFree_of_not_running (faultWith_not_running h _)
    | some q =>
      rw [holdRule_holds h hRule (by rw [hPending]; rfl)]
      exact tearFree_of_not_running (hold_not_running h _)

/-! ## The takes -/

theorem disposal_tearFree {s : State} {e : Entry} {c : Current} (h : s.engine.current = some c)
    (hEntry : c.entry = e) : TearFree (disposal e.kind e s) := by
  have hDrawing : TearFree (disposeDrawing e s) := by
    unfold disposeDrawing
    split
    · rename_i hLive
      refine beginDrawing_tearFree h fun hNot => ?_
      rw [hEntry] at hNot
      exact Bool.noConfusion (hNot.symm.trans hLive)
    · exact holdRule_tearFree h
  cases e.kind with
  | copy => exact hDrawing
  | stamp => exact hDrawing
  | present =>
    simp only [disposal, disposePresent]
    split
    · exact tearFree_of_not_running (hold_not_running h _)
    · exact tearFree_of_not_running (handOver_not_running h)
  | zone => exact tearFree_of_not_running (complete_not_running (by exact h) _ _ _ _)
  | wait =>
    simp only [disposal, disposeWait]
    split
    · exact tearFree_of_not_running (by simp)
    · exact tearFree_of_not_running (complete_not_running h _ _ _ _)
  | mark => exact tearFree_of_not_running (complete_not_running h _ _ _ _)

theorem takeNext_tearFree {s : State} (h : TearFree s) : TearFree (takeNext s) := by
  by_cases hNone : s.engine.state ≠ .idle ∨ s.queue = []
  · rwa [takeNext_of_none hNone]
  · simp only [ne_eq, not_or, not_not] at hNone
    obtain ⟨e, rest, hQueue⟩ := List.exists_cons_of_ne_nil hNone.2
    rw [takeNext_eq hNone.1 hQueue]
    cases e.check with
    | some f => exact tearFree_of_not_running (faultWith_not_running (c := Current.ofEntry e) rfl f)
    | none => exact disposal_tearFree (c := Current.ofEntry e) rfl rfl

/-! ## The ends of grants -/

/-- A running command that moves on is the same command. -/
theorem setCurrent_sameWork {s : State} {c c' : Current} (h : s.engine.current = some c)
    (hEntry : c'.entry = c.entry) : SameWork s (setCurrent c' s) := by
  refine ⟨rfl, id, fun hState c1 hc => ⟨hState, c, h, ?_⟩⟩
  cases hc
  exact hEntry.symm

theorem release_sameWork (s : State) : SameWork s (release s) := .of_same rfl rfl id

theorem endCopyRead_sameWork (source destination : Nat) (dropped : Bool) (s : State) :
    SameWork s (endCopyRead source destination dropped s) := by
  unfold endCopyRead
  dsimp only
  split
  · exact .arbitrated (.of_same rfl rfl id)
  · split
    · exact (release_sameWork s).arbitrated
    · rename_i c hc
      exact ((release_sameWork s).trans (setCurrent_sameWork hc (by rfl))).raised.arbitrated

theorem endStampRead_sameWork (source : Nat) (dropped : Bool) (s : State) :
    SameWork s (endStampRead source dropped s) := by
  unfold endStampRead
  dsimp only
  split
  · exact (release_sameWork s).raised.arbitrated
  · split
    · exact (release_sameWork s).arbitrated
    · rename_i c hc
      exact ((release_sameWork s).trans (setCurrent_sameWork hc (by rfl))).raised.arbitrated

theorem copyByteWritten_sameWork (s : State) : SameWork s (copyByteWritten s) := by
  unfold copyByteWritten
  split
  · exact .refl s
  · rename_i c hc
    dsimp only
    split_ifs
    · exact (setCurrent_sameWork hc (by rfl)).completed
    · exact (setCurrent_sameWork hc (by rfl)).completed
    · exact (setCurrent_sameWork hc (by rfl)).raised

theorem stampByteWritten_sameWork (s : State) : SameWork s (stampByteWritten s) := by
  unfold stampByteWritten
  split
  · exact .refl s
  · rename_i c hc
    dsimp only
    split_ifs
    · exact (setCurrent_sameWork hc (by rfl)).raised
    · exact (setCurrent_sameWork hc (by rfl)).completed
    · exact (setCurrent_sameWork hc (by rfl)).completed
    · exact (setCurrent_sameWork hc (by rfl)).raised

theorem endEngineAccess_sameWork (e : EngineRequest) (s : State) :
    SameWork s (endEngineAccess e s) := by
  have hWritten (a : Nat) (v : Byte) : SameWork s (writeByte a v (release s)) := .of_same rfl rfl id
  unfold endEngineAccess
  split
  · exact endCopyRead_sameWork _ _ _ s
  · unfold endCopyWrite
    dsimp only
    split
    · exact (hWritten _ _).raised.arbitrated
    · exact ((hWritten _ _).trans (copyByteWritten_sameWork _)).arbitrated
  · exact endStampRead_sameWork _ _ s
  · unfold endStampModify
    dsimp only
    split
    · exact (hWritten _ _).raised.arbitrated
    · exact ((hWritten _ _).trans (stampByteWritten_sameWork _)).arbitrated

/-- A grant that ends leaves the same work on the same picture. -/
theorem endGrant_sameWork (s : State) : SameWork s (endGrant s) := by
  unfold endGrant
  split
  · exact arbitrate_sameWork s
  · rename_i r p _
    obtain ⟨k, hEnd⟩ := endRowRead_eq r p s
    rw [hEnd]
    exact .arbitrated (.of_same rfl rfl id)
  · rename_i p _
    obtain ⟨memory, port, hEnd⟩ := endPortAccess_eq p s
    rw [hEnd]
    exact .arbitrated (.of_same rfl rfl id)
  · exact endEngineAccess_sameWork _ s

theorem sameWork_grants (s : State) (n : Nat) : SameWork s (settleEngine n s) := by
  induction n generalizing s with
  | zero => exact .refl s
  | succ n ih =>
    rw [settleEngine]
    split
    · exact (endGrant_sameWork s).trans (ih _)
    · exact .refl s

theorem beforePortGrant_sameWork (s : State) : SameWork s (beforePortGrant s) := sameWork_grants s _

theorem tearFree_keptByPart : KeptByPart TearFree :=
  ⟨fun _ h => takeNext_tearFree h, fun s h => h.of_sameWork (endGrant_sameWork s)⟩

/-! ## The accesses of the host -/

theorem withEngine_sameWork {s : State} {g : Engine} (h : g.state ≠ .running) :
    SameWork s (s.withEngine g) :=
  .of_not_running rfl id h

theorem refuse_sameWork (s : State) : SameWork s (refuse s) := .of_same rfl rfl id

theorem setPauseRequested_sameWork (x : Bool) (s : State) : SameWork s (setPauseRequested x s) :=
  ⟨rfl, id, fun hState c hCurrent => ⟨hState, c, hCurrent, rfl⟩⟩

theorem pauseEngine_sameWork (s : State) : SameWork s (pauseEngine s) := by
  unfold pauseEngine
  split
  · exact refuse_sameWork s
  · split
    case h_8 => exact refuse_sameWork s
    case h_1 | h_2 => exact withEngine_sameWork (by simp)
    all_goals exact setPauseRequested_sameWork true s

theorem abortCommand_sameWork (s : State) : SameWork s (abortCommand s) := by
  unfold abortCommand
  split
  · rename_i c _ hc
    unfold abortRunning
    split_ifs
    · exact refuse_sameWork s
    · exact setCurrent_sameWork hc (by rfl)
    · exact .completed (by exact .of_same rfl rfl id)
  · exact (SameWork.refl s).completed
  · split
    · exact (SameWork.refl s).completed
    · exact (SameWork.refl s).completed
    all_goals exact refuse_sameWork s
  · exact (setPauseRequested_sameWork true s).completed
  · exact refuse_sameWork s

theorem continueEngine_sameWork (s : State) : SameWork s (continueEngine s) := by
  unfold continueEngine
  split
  · split <;> exact withEngine_sameWork (by simp)
  all_goals exact refuse_sameWork s

theorem popRecord_sameWork (s : State) : SameWork s (popRecord s) := by
  unfold popRecord
  split
  · exact refuse_sameWork s
  · split
    · exact .of_not_running rfl id (goOn_not_running _)
    · exact .of_not_running rfl id (by simp)
    · exact .of_same rfl rfl id

/-- RESUME judges a held command again, or stands the engine ready (R61). -/
theorem resumeEngine_tearFree {s : State} (h : TearFree s) : TearFree (resumeEngine s) := by
  by_cases hState : s.engine.state = .paused
  · rw [resumeEngine_of_paused hState, leavePaused]
    split
    · exact tearFree_of_not_running (by simp [standReady])
    · rename_i c hc
      split
      · exact holdRule_tearFree hc
      · split
        · exact tearFree_of_not_running (hold_not_running hc _)
        · exact tearFree_of_not_running (handOver_not_running hc)
      · exact h
  · rw [resumeEngine_of_not_paused hState]
    split
    · exact h.of_sameWork (setPauseRequested_sameWork false s)
    · exact h.of_sameWork (refuse_sameWork s)

theorem engineRequest_tearFree {s : State} (h : TearFree s) (v : Byte) :
    TearFree (engineRequest v s) := by
  unfold engineRequest
  split
  · exact h.of_sameWork (pauseEngine_sameWork s)
  · exact resumeEngine_tearFree h
  · exact h.of_sameWork (abortCommand_sameWork s)
  · exact h.of_sameWork (continueEngine_sameWork s)
  · exact h.of_sameWork (.of_same rfl rfl id)
  · exact tearFree_of_not_running (nomatch ·)
  · exact h.of_sameWork (popRecord_sameWork s)
  · exact h.of_sameWork (refuse_sameWork s)

/-- No panel request starts a scan (R146 to R148). -/
theorem panelRequest_sameWork (v : Byte) (s : State) : SameWork s (panelRequest v s) := by
  unfold panelRequest
  split
  · unfold powerOnPanel
    split
    · exact .of_same rfl rfl (nomatch ·)
    · exact refuse_sameWork s
  · unfold requestShow
    split
    case h_4 | h_5 | h_6 => exact refuse_sameWork s
    all_goals exact .of_same rfl rfl id
  · unfold requestBlank
    split
    case h_4 | h_5 | h_6 => exact refuse_sameWork s
    all_goals exact .of_same rfl rfl id
  · unfold powerOffPanel
    split
    · exact .of_same rfl rfl (nomatch ·)
    · rename_i hState
      exact .of_same rfl rfl fun _ => by simp [scanRunning, hState, PanelState.scans]
    · rename_i hState
      exact .of_same rfl rfl fun _ => by simp [scanRunning, hState, PanelState.scans]
    all_goals exact .refl s
  · exact refuse_sameWork s

theorem pushEntry_sameWork (code : Byte) (s : State) : SameWork s (pushEntry code s) := by
  unfold pushEntry
  split
  · exact .of_same rfl rfl id
  · split <;> exact .of_same rfl rfl id

theorem requestPort_sameWork {s t : State} (h : SameWork s t) (access : PortAccess) :
    SameWork s (requestPort access t) :=
  .arbitrated (h.trans (.of_same rfl rfl id))

theorem readPortData_sameWork (s : State) : SameWork s (readPortData s) := by
  unfold readPortData
  dsimp only
  split
  · exact requestPort_sameWork ((beforePortGrant_sameWork s).trans (by exact .of_same rfl rfl id)) _
  · exact .of_same rfl rfl id

theorem writePortData_sameWork (v : Byte) (s : State) : SameWork s (writePortData v s) := by
  unfold writePortData
  dsimp only
  split
  · exact requestPort_sameWork ((beforePortGrant_sameWork s).trans (by exact .of_same rfl rfl id)) _
  · exact .of_same rfl rfl id

theorem setSupplyEnable_sameWork (v : Byte) (s : State) : SameWork s (setSupplyEnable v s) := by
  unfold setSupplyEnable
  split
  · exact .refl s
  · exact .of_same rfl rfl id

theorem setSpaceThreshold_sameWork (v : Byte) (s : State) : SameWork s (setSpaceThreshold v s) := by
  unfold setSpaceThreshold
  split <;> exact .of_same rfl rfl id

/-- A write of any register but ENGINE_REQUEST leaves the same work on the same picture. -/
theorem writeRegister_sameWork {offset : BitVec 6} (h : offset.toNat ≠ 0x06) (v : Byte) (s : State) :
    SameWork s (writeRegister offset v s) := by
  unfold writeRegister
  split
  · rename_i hOffset
    exact absurd hOffset h
  · exact setSpaceThreshold_sameWork v s
  · exact pushEntry_sameWork v s
  iterate 13 exact .of_same rfl rfl id
  · exact panelRequest_sameWork v s
  iterate 2 exact .of_same rfl rfl id
  · exact setSupplyEnable_sameWork v s
  iterate 2 exact .of_same rfl rfl id
  · exact writePortData_sameWork v s
  iterate 6 exact .of_same rfl rfl id
  · exact .refl s

theorem writeRegister_engineRequest {offset : BitVec 6} (h : offset.toNat = 0x06) (v : Byte) (s : State) :
    writeRegister offset v s = engineRequest v s := by
  simp only [writeRegister, h]

theorem writeRegister_tearFree {s : State} (h : TearFree s) (offset : BitVec 6) (v : Byte) :
    TearFree (writeRegister offset v s) := by
  by_cases hOffset : offset.toNat = 0x06
  · rw [writeRegister_engineRequest hOffset]
    exact engineRequest_tearFree h v
  · exact h.of_sameWork (writeRegister_sameWork hOffset v s)

end Sys2Proof.Machine

namespace Sys2Proof.Machine

/-! # The events of the scan and the timers, and what an engine reset leaves

A switch shows a page that no running command without LIVE touches; and what an ENGINE_RESET leaves to be
finished belongs to such a command, and meets no page that comes to the glass before it has ended. -/

/-! ## The scan -/

theorem startRow_sameWork {s t : State} (h : SameWork s t) (polarity : Polarity) (row : Nat) :
    SameWork s (startRow polarity row t) := by
  rw [startRow_eq]
  exact h.trans (.of_same rfl rfl id)

/-- A switch leaves no command on the glass (R107, R182). -/
theorem Switched.tearFree {s t : State} (h : TearFree s) (hSwitched : Switched s t)
    (hScan : scanRunning t = true → scanRunning s = true) : TearFree t := by
  intro c hState hCurrent hLive hRuns
  rw [hSwitched.engine] at hState hCurrent
  obtain ⟨hShown, hPending⟩ := h c hState hCurrent hLive (hScan hRuns)
  refine ⟨?_, fun q hq => (nomatch hSwitched.pending.symm.trans hq)⟩
  rw [hSwitched.pages]
  cases hPage : s.pages.pending with
  | none => simpa only [Presentation.switched, hPage] using hShown
  | some q =>
    rw [Presentation.switched_of_some hPage]
    exact hPending q hPage

/-- The engine's part of a boundary or a stop begins a command by the hold rule only. -/
theorem engineTakesScanEvent_tearFree {s : State} (h : TearFree s) (counted stopped switched : Bool) :
    TearFree (engineTakesScanEvent counted stopped switched s) := by
  unfold engineTakesScanEvent
  split
  · rename_i c hState hCurrent
    split
    · dsimp only
      generalize (if counted then c.progress + 1 else c.progress) = n
      split_ifs
      · exact tearFree_of_not_running (complete_not_running rfl _ _ _ _)
      · exact tearFree_of_not_running (complete_not_running rfl _ _ _ _)
      · exact tearFree_of_not_running (by simp [hState])
    · split
      · exact tearFree_of_not_running (complete_not_running hCurrent _ _ _ _)
      · exact h
    all_goals exact h
  · rename_i c hState hCurrent
    split
    · unfold reevaluate
      split
      · exact holdRule_tearFree hCurrent
      · exact tearFree_of_not_running (handOver_not_running hCurrent)
      · exact h
    · exact h
  · exact h

theorem negativeFrameEnds_tearFree {s : State} (h : TearFree s) : TearFree (negativeFrameEnds s) := by
  unfold negativeFrameEnds
  split
  · rename_i hEnds
    have hTaken : TearFree (pairTaken s) := (pairTaken_switched s).tearFree h fun _ => hEnds.1
    by_cases hStopping : s.panel.state = .stopping
    · rw [takePairBoundary_of_stopping hStopping]
      exact engineTakesScanEvent_tearFree hTaken _ _ _
    · rw [takePairBoundary_of_going hStopping]
      exact (engineTakesScanEvent_tearFree hTaken _ _ _).of_sameWork (startRow_sameWork (.refl _) _ _)
  · exact h

theorem rowEnds_sameWork (s : State) : SameWork s (rowEnds s) := by
  unfold rowEnds
  split
  · exact startRow_sameWork (.refl s) _ _
  · exact .refl s

theorem positiveFrameEnds_sameWork (s : State) : SameWork s (positiveFrameEnds s) := by
  unfold positiveFrameEnds
  split
  · exact startRow_sameWork (by exact .of_same rfl rfl id) _ _
  · exact .refl s

/-! ## The timers and the reset inputs -/

theorem dischargeTimerEnds_sameWork (s : State) : SameWork s (dischargeTimerEnds s) := by
  unfold dischargeTimerEnds
  split
  · exact .of_same rfl rfl (nomatch ·)
  · exact .refl s

theorem emergencyDischarge_tearFree {s : State} (h : TearFree s) : TearFree (emergencyDischarge s) := by
  unfold emergencyDischarge
  split
  · rename_i hRuns
    exact engineTakesScanEvent_tearFree ((discharged_switched s).tearFree h fun _ => hRuns) _ _ _
  · exact h.of_sameWork (.of_same rfl rfl (nomatch ·))

theorem takeSample_tearFree {s : State} (h : TearFree s) (millivolts : Nat) :
    TearFree (takeSample millivolts s) := by
  have hRecorded : TearFree (recordSample millivolts s) := h.of_sameWork (.of_same rfl rfl id)
  have hLatched : TearFree (latchSupply (recordSample millivolts s)) :=
    hRecorded.of_sameWork (.of_same rfl rfl id)
  unfold takeSample
  dsimp only
  split_ifs
  · exact emergencyDischarge_tearFree hLatched
  · exact hLatched
  · exact hRecorded

theorem sampleTimerEnds_tearFree {s : State} (h : TearFree s) (millivolts : Nat) :
    TearFree (sampleTimerEnds millivolts s) := by
  unfold sampleTimerEnds
  split_ifs
  · exact tearFree_of_not_running (nomatch ·)
  · exact takeSample_tearFree h millivolts
  · exact h

theorem releaseReset_sameWork (s : State) : SameWork s (releaseReset s) := by
  unfold releaseReset
  split
  · exact .of_same rfl rfl id
  · exact .refl s

theorem takeSupplyRise_sameWork (s : State) : SameWork s (takeSupplyRise s) := by
  unfold takeSupplyRise
  split
  · exact .of_same rfl rfl id
  · exact .refl s

theorem takePowerOnRelease_sameWork (s : State) : SameWork s (takePowerOnRelease s) := by
  unfold takePowerOnRelease
  split
  · exact .of_same rfl rfl id
  all_goals exact .refl s

/-- Every event of a timer but the start of the scan keeps the picture tear-free. -/
theorem timed_tearFree {c : Instr} {event : State → State} (hRole : role c = .timed event)
    (hCharge : c ≠ .chargeExpiry) {s : State} (h : TearFree s) : TearFree (event s) :=
  timed_cases (motive := fun c f => c ≠ .chargeExpiry → TearFree (f s))
    (fun _ => h.of_sameWork (rowEnds_sameWork s)) (fun _ => h.of_sameWork (positiveFrameEnds_sameWork s))
    (fun _ => negativeFrameEnds_tearFree h) (fun hNot => absurd rfl hNot)
    (fun _ => h.of_sameWork (dischargeTimerEnds_sameWork s)) (fun mv _ => sampleTimerEnds_tearFree h mv)
    hRole hCharge

theorem reset_tearFree_event {c : Instr} {event : State → State} (hRole : role c = .reset event) {s : State}
    (h : TearFree s) : TearFree (event s) :=
  reset_cases (motive := fun f => TearFree (f s)) (tearFree_of_not_running (nomatch ·))
    (h.of_sameWork (releaseReset_sameWork s)) (tearFree_of_not_running (nomatch ·))
    (h.of_sameWork (takeSupplyRise_sameWork s)) (h.of_sameWork (takePowerOnRelease_sameWork s)) hRole

theorem exec_tearFree {c : Instr} (hCharge : c ≠ .chargeExpiry) {s t : State} (hExec : exec c s = .next t)
    (h : TearFree s) : TearFree t := by
  obtain ⟨u, hu, hFree⟩ := exec_leads (Met := fun _ => True) (Still := fun _ => True) tearFree_keptByPart
    (fun _ h => h) (fun _ _ _ => trivial) (fun _ _ => trivial)
    (fun offset v _ h _ => writeRegister_tearFree h offset v)
    (fun t h _ => h.of_sameWork (readPortData_sameWork t)) (fun _ h _ => h.of_sameWork (.of_same rfl rfl id)) c
    (fun _ hRole _ h _ => timed_tearFree hRole hCharge h) (fun _ hRole _ h => reset_tearFree_event hRole h) s h
  cases hExec.symm.trans hu
  exact hFree

/-- The first part of O60: no step but the start of the scan puts a command to work on the glass. -/
theorem step_tearFree {s t : State} (h : TearFree s) (hFront : s.pending.head? ≠ some .chargeExpiry)
    (hStep : step s = .next t) : TearFree t :=
  step_leads (P := TearFree) (Front := (· ≠ .chargeExpiry)) (fun _ h => h)
    (fun _ _ _ h => h.of_sameWork (.of_same rfl rfl id)) (fun _ _ h => h.of_sameWork (.of_same rfl rfl id))
    (fun _ _ _ h => h.of_sameWork (.of_same rfl rfl id)) (fun _ hc _ _ hExec h => exec_tearFree hc hExec h)
    hStep (fun _ hc hNot => hFront (hNot ▸ hc)) h

/-! ## What an engine reset leaves to be finished (R16) -/

/-- A COPY that writes an address of a page touches it (R42). -/
theorem touches_of_copyDestination {e : Entry} (hKind : e.kind = .copy) {k : Nat} (hk : k < e.count)
    {p : Fin 4} (h : pageOf (e.copyDestination k) = some p) : e.touches p = true := by
  rw [pageOf_eq_some_iff] at h
  have hFirst := copyDestination_le (e := e) (Nat.zero_le k)
  have hLast := copyDestination_le (e := e) (Nat.le_sub_one_of_lt hk)
  simp only [Entry.touches, hKind, pageBase, pageMemoryBase, Bool.and_eq_true]
  exact ⟨decide_eq_true (by omega), decide_eq_true (by omega)⟩

/-- What a running command writes next lies in a page it touches, where it lies in a page. -/
theorem Current.InWork.touches {c : Current} (h : c.InWork) {access : EngineAccess}
    (hNext : c.nextAccess = some access) {a : Nat} (ha : a ∈ access.writes) {p : Fin 4}
    (hPage : pageOf a = some p) : c.entry.touches p = true := by
  rcases h.drawing with hKind | hKind
  · have hDestination : a = c.entry.copyDestination c.progress := by
      cases hByte : c.copyByte <;> simp only [Current.nextAccess, hKind, hByte] at hNext <;> cases hNext <;>
        exact List.mem_singleton.mp ha
    rw [hDestination] at hPage
    exact touches_of_copyDestination hKind (h.copy hKind) hPage
  · cases hPhase : c.phase with
    | reading =>
      simp only [Current.nextAccess, hKind, hPhase] at hNext
      cases hNext
      cases ha
    | writing =>
      simp only [Current.nextAccess, hKind, hPhase] at hNext
      cases hNext
      rw [List.mem_singleton.mp ha, pageOf_stampDestination (stampInRange_of_check h.check hKind) (h.row hKind)
        (h.writing hKind hPhase)] at hPage
      cases hPage
      simp only [Entry.touches, hKind, decide_true]

/-- The second part of O60: what the reset leaves writes no byte of the shown page. -/
theorem engineReset_tearFree {s : State} {c : Current} (hSide : EngineSide s) (h : TearFree s)
    (hReady : Ready s) (hCurrent : s.engine.current = some c) (hState : s.engine.state = .running)
    (hLive : c.entry.flags.getLsbD 1 = false) (hRuns : scanRunning s = true) {e : EngineRequest}
    (he : (resetEngine s).arbiter.holdsEngine e) {a : Nat} (ha : a ∈ e.access.writes) :
    pageOf a ≠ some s.pages.shown := by
  intro hPage
  obtain ⟨-, e', he', hAccess⟩ := dropEngine_holdsEngine he
  have hNext := (hSide.1.arbiter.current e' he' ((hSide.meets hReady).not_dropped e' he')).2
  rw [hCurrent, Option.bind_some] at hNext
  have hTouches := (hSide.1.inWork hState hCurrent).1.touches hNext (hAccess ▸ ha) hPage
  exact Bool.noConfusion ((h c hState hCurrent hLive hRuns).1.symm.trans hTouches)

/-! ## Until it has ended no page comes to the glass (R64, R116) -/

/-- A part in which an engine reset has left nothing but an access to be finished. -/
structure Resting (pages : Presentation) (s : State) : Prop where
  side : EngineSide s
  engine : s.engine = Engine.reset
  queue : s.queue = []
  pages : s.pages = pages

theorem Resting.takeNext {pages : Presentation} {s : State} (h : Resting pages s) : takeNext s = s :=
  takeNext_of_none (.inr h.queue)

theorem Resting.of_arbitrate {pages : Presentation} {s u : State} (hSide : EngineSide (arbitrate u))
    (h : Resting pages s) (hEngine : u.engine = s.engine) (hQueue : u.queue = s.queue)
    (hPages : u.pages = s.pages) : Resting pages (arbitrate u) :=
  ⟨hSide, by rw [arbitrate_engine, hEngine, h.engine], by rw [arbitrate_queue, hQueue, h.queue],
    by rw [arbitrate_pages, hPages, h.pages]⟩

/-- A grant that ends leaves the part resting. -/
theorem Resting.endGrant {pages : Presentation} {s : State} (h : Resting pages s) :
    Resting pages (endGrant s) := by
  have hSide := endGrant_serving h.side.1
  cases hGrant : s.arbiter.grant with
  | none =>
    rw [endGrant_of_none hGrant] at hSide ⊢
    exact .of_arbitrate hSide h rfl rfl rfl
  | some g =>
    cases g with
    | row r p =>
      obtain ⟨k, hEnd⟩ := endRowRead_eq r p s
      rw [endGrant_of_row hGrant, hEnd] at hSide ⊢
      exact .of_arbitrate hSide h rfl rfl rfl
    | port p =>
      obtain ⟨memory, port, hEnd⟩ := endPortAccess_eq p s
      rw [endGrant_of_port hGrant, hEnd] at hSide ⊢
      exact .of_arbitrate hSide h rfl rfl rfl
    | engine e =>
      have hDropped : e.dropped = true := by
        by_contra hLive
        have hRunning := (h.side.1.arbiter.current e (.inr hGrant) (Bool.eq_false_of_not_eq_true hLive)).1
        rw [h.engine] at hRunning
        cases hRunning
      obtain ⟨u, hEnd, -, hu⟩ := endEngineAccess_dropped h.side.1 hDropped hGrant
      rw [endGrant_of_engine hGrant, hEnd] at hSide ⊢
      rcases hu with ⟨memory, rfl⟩ | ⟨a, d, v, -, rfl⟩ <;> exact .of_arbitrate hSide h rfl rfl rfl

theorem resting_keptByPart (pages : Presentation) : KeptByPart (Resting pages) :=
  ⟨fun _ h => h.takeNext.symm ▸ h, fun _ h => h.endGrant⟩

/-- An engine request in a resting part leaves the pages as they stand where none is pending. -/
theorem Resting.engineRequest_pages {pages : Presentation} (hNone : pages.pending = none) {s : State}
    (h : Resting pages s) (v : Byte) : (engineRequest v s).pages = pages := by
  unfold engineRequest
  split
  · exact (pauseEngine_sameWork s).pages.trans h.pages
  · rw [resumeEngine_of_not_paused (by rw [h.engine]; decide), h.engine]
    exact h.pages
  · exact (abortCommand_sameWork s).pages.trans h.pages
  · exact (continueEngine_sameWork s).pages.trans h.pages
  · exact h.pages
  · rw [show (resetEngine s).pages = { s.pages with pending := none } from rfl, h.pages, ← hNone]
  · exact (popRecord_sameWork s).pages.trans h.pages
  · exact h.pages

theorem Resting.writeRegister_pages {pages : Presentation} (hNone : pages.pending = none) {s : State}
    (h : Resting pages s) (offset : BitVec 6) (v : Byte) : (writeRegister offset v s).pages = pages := by
  by_cases hOffset : offset.toNat = 0x06
  · rw [writeRegister_engineRequest hOffset]
    exact h.engineRequest_pages hNone v
  · exact (writeRegister_sameWork hOffset v s).pages.trans h.pages

/-- A boundary or a stop switches no page where none is pending, and finds nothing at the engine. -/
theorem Resting.scanEvent_pages {pages : Presentation} (hNone : pages.pending = none) {s t : State}
    (h : Resting pages s) (hSwitched : Switched s t) (counted stopped switched : Bool) :
    (engineTakesScanEvent counted stopped switched t).pages = pages := by
  have hEngine : t.engine = Engine.reset := hSwitched.engine.trans h.engine
  rw [engineTakesScanEvent_idle _ _ _ (by rw [hEngine]; decide) fun hHeld => ?_, hSwitched.pages, h.pages]
  · simp only [Presentation.switched, hNone]
  · rw [hEngine] at hHeld
    cases hHeld

theorem Resting.negativeFrameEnds_pages {pages : Presentation} (hNone : pages.pending = none) {s : State}
    (h : Resting pages s) : (negativeFrameEnds s).pages = pages := by
  unfold negativeFrameEnds
  split
  · by_cases hStopping : s.panel.state = .stopping
    · rw [takePairBoundary_of_stopping hStopping]
      exact h.scanEvent_pages hNone (pairTaken_switched s) _ _ _
    · rw [takePairBoundary_of_going hStopping, startRow_eq]
      exact h.scanEvent_pages hNone (pairTaken_switched s) _ _ _
  · exact h.pages

theorem Resting.takeSample_pages {pages : Presentation} (hNone : pages.pending = none) {s : State}
    (h : Resting pages s) (millivolts : Nat) : (takeSample millivolts s).pages = pages := by
  have hSide : EngineSide (latchSupply (recordSample millivolts s)) :=
    h.side.of_same rfl rfl rfl rfl rfl rfl id
  have hLatched : Resting pages (latchSupply (recordSample millivolts s)) :=
    ⟨hSide, h.engine, h.queue, h.pages⟩
  unfold takeSample
  dsimp only
  split_ifs
  · unfold emergencyDischarge
    split
    · exact hLatched.scanEvent_pages hNone (discharged_switched _) _ _ _
    · exact h.pages
  · exact h.pages
  · exact h.pages

theorem Resting.chargeTimerEnds_pages {pages : Presentation} {s : State} (h : Resting pages s) :
    (chargeTimerEnds s).pages = pages := by
  unfold chargeTimerEnds
  split
  · rw [endCharging, startRow_eq]
    exact h.pages
  · exact h.pages

theorem Resting.sampleTimerEnds_pages {pages : Presentation} (hNone : pages.pending = none) {s : State}
    (h : Resting pages s) {millivolts : Nat} (hLevel : 2000 ≤ millivolts) :
    (sampleTimerEnds millivolts s).pages = pages := by
  unfold sampleTimerEnds
  rw [if_neg (by omega)]
  split
  · exact h.takeSample_pages hNone millivolts
  · exact h.pages

theorem Resting.timed_pages {pages : Presentation} (hNone : pages.pending = none) {c : Instr}
    {event : State → State} (hRole : role c = .timed event)
    (hLevel : ∀ millivolts, c = .sample millivolts → 2000 ≤ millivolts) {s : State} (h : Resting pages s) :
    (event s).pages = pages :=
  timed_cases (motive := fun c f => (∀ millivolts, c = .sample millivolts → 2000 ≤ millivolts) →
      (f s).pages = pages)
    (fun _ => (rowEnds_sameWork s).pages.trans h.pages)
    (fun _ => (positiveFrameEnds_sameWork s).pages.trans h.pages)
    (fun _ => h.negativeFrameEnds_pages hNone) (fun _ => h.chargeTimerEnds_pages)
    (fun _ => (dischargeTimerEnds_sameWork s).pages.trans h.pages)
    (fun mv hLevel => h.sampleTimerEnds_pages hNone (hLevel mv rfl)) hRole hLevel

/-- An ordinary command in a resting part leaves the pages as they stand. -/
theorem Resting.exec_pages {pages : Presentation} (hNone : pages.pending = none) {c : Instr}
    (hc : Ordinary c) {s t : State} (hExec : exec c s = .next t) (h : Resting pages s) : t.pages = pages := by
  obtain ⟨u, hu, hPages⟩ := exec_leads (Q := fun t => t.pages = pages) (Met := fun _ => True)
    (Still := fun _ => True) (resting_keptByPart pages) (fun _ h => h.pages) (fun _ _ _ => trivial)
    (fun _ _ => trivial) (fun offset v _ h _ => h.writeRegister_pages hNone offset v)
    (fun t h _ => (readPortData_sameWork t).pages.trans h.pages) (fun _ h _ => h.pages) c
    (fun _ hRole _ h _ => h.timed_pages hNone hRole hc.2)
    (fun _ hRole _ _ => Bool.noConfusion (hc.1.symm.trans (isResetEvent_of_role hRole))) s h
  cases hExec.symm.trans hu
  exact hPages

/-- The third part of O60: until what a reset has left has ended no step but a device reset changes the shown
page or makes a page pending. -/
theorem step_pages_of_dropped {s t : State} (hSide : EngineSide s) (hDropped : droppedOutstanding s = true)
    (hStep : step s = .next t) (hFront : ∀ c, s.pending.head? = some c → Ordinary c) :
    t.pages = s.pages ∧ t.pages.pending = none := by
  obtain ⟨hEngine, hQueue, hNone, -⟩ := hSide.1.dropped hDropped
  have hPages : t.pages = s.pages := by
    refine step_leads (P := Resting s.pages) (Q := fun t => t.pages = s.pages) (fun _ h => h.pages)
      (fun _ _ _ h => ⟨?_, h.engine, h.queue, h.pages⟩) (fun _ _ h => ⟨?_, h.engine, h.queue, h.pages⟩)
      (fun _ _ _ h => ⟨?_, h.engine, h.queue, h.pages⟩)
      (fun _ hc _ _ hExec h => h.exec_pages hNone hc hExec) hStep hFront ⟨hSide, hEngine, hQueue, rfl⟩ <;>
      exact h.side.of_same rfl rfl rfl rfl rfl rfl id
  exact ⟨hPages, hPages ▸ hNone⟩

/-- Settles O60: every step but the start of the scan keeps the picture tear-free, and what an ENGINE_RESET
leaves to be finished belongs to a command that touches no page on the glass, and ends before one comes to
it. -/
theorem everyStepKeepsThePictureTearFree : Obligations.EveryStepKeepsThePictureTearFree := by
  refine ⟨fun s _ h hFront t hStep => step_tearFree h hFront hStep,
    fun s c hInv h hReady hCurrent hState hLive hRuns => ?_,
    fun s t hInv hDropped hStep hFront => step_pages_of_dropped (engineSide_of_inv hInv) hDropped hStep hFront⟩
  have hExec : exec .engineReset s = .next (resetEngine s) := exec_access_of_ready hReady rfl
  exact ⟨resetEngine s, hExec, rfl, fun e he a ha => engineReset_tearFree (engineSide_of_inv hInv) h hReady
    hCurrent hState hLive hRuns he ha⟩

end Sys2Proof.Machine

namespace Sys2Proof.Machine

/-! # What an access of the host meets (O6)

The state an access meets is ready, and so is met again as it stands; a grant that an access has left is
the first of those that end before it; and a read of PORT_DATA returns the byte of its own grant. -/

/-! ## The access as its effect -/

/-- An access of the host has an effect on the state it meets. -/
theorem exec_of_isHostAccess {c : Instr} (h : isHostAccess c = true) :
    ∃ effect, ∀ s, exec c s = .next (onBus effect s) := by
  rw [isHostAccess, Bool.or_eq_true, Bool.or_eq_true, beq_iff_eq, beq_iff_eq] at h
  rcases h with (h | rfl) | rfl
  · obtain ⟨⟨offset, v⟩, hWrite⟩ := Option.isSome_iff_exists.mp h
    exact ⟨_, exec_of_busWrite hWrite⟩
  · exact ⟨_, fun _ => rfl⟩
  · exact ⟨_, fun _ => rfl⟩

/-- Accesses act alike on states that meet them alike. -/
theorem exec_access_congr {c : Instr} (hc : isHostAccess c = true) {s t : State} (hOut : inReset s = false)
    (hReset : inReset s = inReset t) (h : beforeAccess s = beforeAccess t) : exec c s = exec c t := by
  obtain ⟨effect, hExec⟩ := exec_of_isHostAccess hc
  rw [hExec, hExec, onBus_congr h hReset hOut]

theorem endGrant_inReset (s : State) : inReset (endGrant s) = inReset s := (endGrant_moves s).inReset

/-- A grant that ends while something is outstanding is the first of those before an access. -/
theorem beforeAccess_endGrant {s : State} (h : EngineSide s) (hSettled : Settled s)
    (hOut : accessOutstanding s = true) (hNext : Settled (endGrant s)) :
    beforeAccess s = beforeAccess (endGrant s) := by
  rw [beforeAccess, beforeAccess, onEvent_of_settled hSettled, onEvent_of_settled hNext]
  exact congrArg (settleTakes queueCapacity) (settleAccess_endGrant h hOut).symm

/-- The end of the data-port grant in progress, as its command. -/
theorem exec_dataPortGrant_endGrant {s : State} (hSettled : Settled s) {p : PortAccess}
    (hGrant : s.arbiter.grant = some (.port p)) : exec .dataPortGrant s = .next (endGrant s) := by
  rw [exec_grantEnd_of_settled hSettled rfl, portGrantEnds_of_grant hGrant, endGrant_of_port hGrant]

/-- The end of the engine grant in progress, as its command. -/
theorem exec_ending_endGrant {s : State} (hSettled : Settled s) {e : EngineRequest}
    (hGrant : s.arbiter.grant = some (.engine e)) :
    exec (Grant.engine e).ending s = .next (endGrant s) := by
  rw [endGrant_of_engine hGrant]
  obtain ⟨access, dropped⟩ := e
  cases access with
  | copyRead a d =>
    exact (exec_grantEnd_of_settled hSettled rfl).trans (congrArg _ (copyReadEnds_of_grant hGrant))
  | copyWrite d v =>
    exact (exec_grantEnd_of_settled hSettled rfl).trans (congrArg _ (copyWriteEnds_of_grant hGrant))
  | stampRead a =>
    exact (exec_grantEnd_of_settled hSettled rfl).trans (congrArg _ (stampReadEnds_of_grant hGrant))
  | stampModify d mask bits operator =>
    exact (exec_grantEnd_of_settled hSettled rfl).trans (congrArg _ (stampModifyEnds_of_grant hGrant))

theorem settled_endGrant_of_port {s : State} (h : Settled s) {p : PortAccess}
    (hGrant : s.arbiter.grant = some (.port p)) : Settled (endGrant s) := by
  obtain ⟨memory, port, hEnd⟩ := endPortAccess_eq p s
  rw [Settled, endGrant_of_port hGrant, hEnd, arbitrate_engine]
  exact h

section
variable {s : State} (h : EngineSide s) (hOut : inReset s = false) {c : Instr}
  (hc : isHostAccess c = true)
include h hOut hc

/-- An access acts on the state it meets as it stands. -/
theorem exec_access_beforeAccess : exec c s = exec c (beforeAccess s) := by
  have hReady := beforeAccess_ready h hOut
  exact exec_access_congr hc hOut (hOut.trans hReady.1.symm) (beforeAccess_of_ready hReady).symm

/-- The data-port grant in progress ends first, as by its command (R168, R169). -/
theorem exec_access_after_port (hSettled : Settled s) {p : PortAccess}
    (hGrant : s.arbiter.grant = some (.port p)) :
    ∃ t, exec .dataPortGrant s = .next t ∧ exec c s = exec c t := by
  refine ⟨endGrant s, exec_dataPortGrant_endGrant hSettled hGrant,
    exec_access_congr hc hOut (endGrant_inReset s).symm (beforeAccess_endGrant h hSettled ?_
      (settled_endGrant_of_port hSettled hGrant))⟩
  exact (accessOutstanding_iff s).mpr (.inl ⟨p, .inr hGrant⟩)

/-- The grant that an engine reset has left in progress ends first, as by its command (R16, R162). -/
theorem exec_access_after_dropped {e : EngineRequest} (hDropped : e.dropped = true)
    (hGrant : s.arbiter.grant = some (.engine e)) :
    ∃ t, exec (Grant.engine e).ending s = .next t ∧ exec c s = exec c t := by
  obtain ⟨hEngine, hQueue, -, -⟩ :=
    h.1.dropped ((droppedOutstanding_iff s).mpr ⟨e, .inr hGrant, hDropped⟩)
  have hSettled : Settled s := by rw [Settled, hEngine]; rfl
  have hNext : Settled (endGrant s) := by
    have hResting : Resting s.pages s := ⟨h, hEngine, hQueue, rfl⟩
    rw [Settled, hResting.endGrant.engine]
    rfl
  refine ⟨endGrant s, exec_ending_endGrant hSettled hGrant,
    exec_access_congr hc hOut (endGrant_inReset s).symm (beforeAccess_endGrant h hSettled ?_ hNext)⟩
  exact (accessOutstanding_iff s).mpr (.inr ⟨e, .inr hGrant, hDropped⟩)

end

/-! ## Reads -/

/-- A read but of FRAME_COUNT lo and PORT_DATA shows the state it meets. -/
theorem hostRead_of_plain {s : State} (hOut : inReset s = false) {offset : BitVec 6} (hFrame : offset ≠ 0x1E#6)
    (hPort : offset ≠ 0x2B#6) :
    hostRead offset s = (beforeAccess s, some (readRegister (beforeAccess s) offset)) := by
  have hFrame' : offset.toNat ≠ 0x1E := fun h => hFrame (BitVec.eq_of_toNat_eq h)
  have hPort' : offset.toNat ≠ 0x2B := fun h => hPort (BitVec.eq_of_toNat_eq h)
  simp [hostRead, hOut]

/-- A read of PORT_DATA is its command with the grant that returns the byte (R168). -/
theorem hostRead_portData {s : State} (hOut : inReset s = false) :
    hostRead 0x2B#6 s = (settleAccess settleBound (readPortData (beforeAccess s)),
      (settleAccess settleBound (readPortData (beforeAccess s))).port.readValue) := by
  simp [hostRead, hOut]

theorem exec_onBus_of_out {s : State} (hOut : inReset s = false) (effect : State → State) :
    onBus effect s = effect (beforeAccess s) := by
  rw [onBus, hOut]
  rfl

/-! ## The byte of a data-port read -/

/-- The byte of a data-port read has been returned, or its access is at the arbiter. -/
def ReadAnswered (s : State) : Prop :=
  s.port.readValue.isSome = true ∨ ∃ a, s.arbiter.holdsPort (.read a)

@[simp] theorem raiseEngine_port (s : State) : (raiseEngine s).port = s.port := by
  obtain ⟨b, h⟩ := raiseEngine_frame s
  rw [h]
  rfl

@[simp] theorem complete_port (status : Status) (progress : Nat) (clipped held : Bool) (s : State) :
    (complete status progress clipped held s).port = s.port := by
  obtain ⟨ring, engine, h⟩ := complete_frame status progress clipped held s
  rw [h]

@[simp] theorem setCurrent_port (c : Current) (s : State) : (setCurrent c s).port = s.port := rfl

@[simp] theorem release_port (s : State) : (release s).port = s.port := rfl

@[simp] theorem writeByte_port (a : Nat) (v : Byte) (s : State) : (writeByte a v s).port = s.port := rfl

@[simp] theorem copyByteWritten_port (s : State) : (copyByteWritten s).port = s.port := by
  unfold copyByteWritten
  split
  · rfl
  · dsimp only
    split_ifs <;> simp

@[simp] theorem stampByteWritten_port (s : State) : (stampByteWritten s).port = s.port := by
  unfold stampByteWritten
  split
  · rfl
  · dsimp only
    split_ifs <;> simp

/-- The engine's accesses leave the data port as it stands. -/
theorem endEngineAccess_port (e : EngineRequest) (s : State) :
    (endEngineAccess e s).port = s.port := by
  unfold endEngineAccess
  split
  · unfold endCopyRead
    dsimp only
    split
    · simp
    · split <;> simp
  · unfold endCopyWrite
    dsimp only
    split <;> simp
  · unfold endStampRead
    dsimp only
    split
    · simp
    · split <;> simp
  · unfold endStampModify
    dsimp only
    split <;> simp

/-- A grant that ends leaves the value of a read, or is the read's and returns it (R168). -/
theorem endGrant_readValue (s : State) : (endGrant s).port.readValue = s.port.readValue ∨
    (endGrant s).port.readValue.isSome = true := by
  unfold endGrant
  split
  · exact .inl (congrArg Port.readValue (arbitrate_port s))
  · exact .inl (congrArg Port.readValue (endRowRead_port _ _ s))
  · rename_i p _
    cases p with
    | read a =>
      refine .inr ?_
      simp [endPortAccess]
    | write a v =>
      refine .inl ?_
      simp [endPortAccess]
  · exact .inl (congrArg Port.readValue (endEngineAccess_port _ s))

theorem endGrant_readAnswered {s : State} (h : Serving s) (hRead : ReadAnswered s) :
    ReadAnswered (endGrant s) := by
  rcases hRead with hSome | ⟨a, hRequest | hGrant⟩
  · refine .inl ?_
    rcases endGrant_readValue s with hSame | hAgain
    · rw [hSame, hSome]
    · exact hAgain
  · refine .inr ⟨a, ?_⟩
    cases hg : s.arbiter.grant with
    | none =>
      rw [endGrant_of_none hg]
      exact ((arbitrate_serves s).holdsPort _).mpr (.inl hRequest)
    | some g =>
      obtain ⟨q, shown, -, hServes⟩ := endGrant_arbiter h hg
      exact (hServes.holdsPort _).mpr (.inl hRequest)
  · refine .inl ?_
    rw [endGrant_of_port hGrant]
    simp [endPortAccess]

theorem settleAccess_readAnswered (n : Nat) : ∀ s, EngineSide s → ReadAnswered s →
    ReadAnswered (settleAccess n s) := by
  induction n with
  | zero => exact fun _ _ h => h
  | succ n ih =>
    intro s h hRead
    rw [settleAccess]
    split
    · exact ih _ (endGrant_serving h.1) (endGrant_readAnswered h.1 hRead)
    · exact hRead

/-- A read of PORT_DATA asks for its byte, or returns 00h (R168, R170). -/
theorem readPortData_readAnswered (s : State) : ReadAnswered (readPortData s) := by
  by_cases hMapped : mapped s.port.pointer.toNat = true
  · rw [readPortData_of_mapped hMapped]
    exact .inr ⟨_, ((arbitrate_serves _).holdsPort _).mpr (.inl rfl)⟩
  · rw [readPortData_of_unmapped hMapped]
    exact .inl rfl

/-- Once the grants before the next access have ended, a read of PORT_DATA has its byte. -/
theorem readPortData_returns {s : State} (h : EngineSide s) (hReady : Ready s) :
    ∃ v, (settleAccess settleBound (readPortData s)).port.readValue = some v := by
  have hSide := readPortData_engineSide h hReady
  have hNone := settleAccess_none_outstanding hSide
  rcases settleAccess_readAnswered settleBound _ hSide (readPortData_readAnswered s) with hSome | ⟨a, ha⟩
  · exact Option.isSome_iff_exists.mp hSome
  · exact Bool.noConfusion (hNone.symm.trans ((accessOutstanding_iff _).mpr (.inl ⟨_, ha⟩)))

/-- At an unmapped pointer a read returns 00h at once (R170). -/
theorem readPortData_unmapped {s : State} (hReady : Ready s) (hPointer : 0x0E80 ≤ s.port.pointer.toNat) :
    (settleAccess settleBound (readPortData s)).port.readValue = some 0#8 := by
  rw [readPortData_of_unmapped (by rw [mapped_iff]; omega), settleAccess_of_none (by exact hReady.2.2)]
  rfl

/-- With nothing else at the arbiter a read at a mapped pointer returns the byte there (R168). -/
theorem readPortData_mapped_alone {s : State} (h : EngineSide s) (hPointer : s.port.pointer.toNat < 0x0E80)
    (hGrant : s.arbiter.grant = none) :
    (settleAccess settleBound (readPortData s)).port.readValue =
      some (byteAt s s.port.pointer.toNat) := by
  obtain ⟨hRow, hPort, hEngine⟩ := h.2 hGrant
  have hOwed : s.arbiter.engineOwed = false := by
    by_contra hOwed
    have := (h.1.arbiter.owed (Bool.not_eq_false _ ▸ hOwed)).1
    simp [hEngine] at this
  rw [readPortData_of_mapped ((mapped_iff _).mpr hPointer), beforePortGrant_of_not_owed hOwed,
    requestPort_eq (by exact h.2)]
  have hAsked : portAsks (.read s.port.pointer.toNat) s.arbiter =
      { s.arbiter with grant := some (.port (.read s.port.pointer.toNat)), engineOwed := false } := by
    simp only [portAsks, hGrant]
  show (settleAccess 4 ((advancePointer (s.withPort { s.port with readValue := none })).withArbiter
    (portAsks _ s.arbiter))).port.readValue = _
  rw [hAsked, settleAccess_of_outstanding, endGrant_of_port rfl, endPortAccess, arbitrate_of_busy,
    settleAccess_of_none]
  · rfl
  · simp [accessOutstanding, portBusy, droppedOutstanding, release, hPort, hEngine]
  · exact fun _ => ⟨hRow, hPort, hEngine⟩
  · rw [accessOutstanding_iff]
    exact .inl ⟨_, .inr rfl⟩

/-- Settles O6, access by access. -/
theorem everyAccessMeetsAReadyPart : Obligations.EveryAccessMeetsAReadyPart := by
  intro s hInv
  have h := engineSide_of_inv hInv
  refine ⟨fun hIn offset => by simp [hostRead, hIn], fun hOut => ?_⟩
  have hReady := beforeAccess_ready h hOut
  have hMet : EngineSide (beforeAccess s) := engineSide_keptByPart.beforeAccess s h
  have hFrame : exec .frameCountLoRead s = .next (readFrameCountLo (beforeAccess s)) :=
    congrArg Host.Outcome.next (exec_onBus_of_out hOut readFrameCountLo)
  have hPort : exec .portDataRead s = .next (readPortData (beforeAccess s)) :=
    congrArg Host.Outcome.next (exec_onBus_of_out hOut readPortData)
  obtain ⟨v, hv⟩ := readPortData_returns hMet hReady
  refine ⟨hReady, fun c hc => ⟨exec_access_beforeAccess h hOut hc, fun p hSettled hGrant _ =>
      exec_access_after_port h hOut hc hSettled hGrant⟩,
    fun c hc e hDropped hGrant => exec_access_after_dropped h hOut hc hDropped hGrant,
    fun offset => hostRead_of_plain hOut, ⟨_, hFrame, by simp [hostRead, hOut]; rfl⟩,
    ⟨_, v, hPort, hv, by rw [hostRead_portData hOut, hv],
      settleAccess_none_outstanding (readPortData_engineSide hMet hReady), fun hPointer => ?_,
      fun hPointer hGrant => ?_⟩,
    fun offset w => exec_writeCommand offset w s⟩
  · exact Option.some.inj (hv.symm.trans (readPortData_unmapped hReady hPointer))
  · exact Option.some.inj (hv.symm.trans (readPortData_mapped_alone hMet hPointer hGrant))

end Sys2Proof.Machine
